-- ==== Sys2Proof/Word.lean ====
section
/-! DEFINITION. The words of the block (00_scope.md R8, R10): unsigned binary numbers, bit 0 least significant. -/

namespace Sys2Proof

/-- A data byte, `BYTE_W` = 8 bits (R8, R47). -/
abbrev Byte := BitVec 8

/-- A 16-bit number: the servo compare value and the link counter (`CMP_W`, `CNT_W`, R8). -/
abbrev Word := BitVec 16

/-- A pair of pin levels: bit 1 is the level of pin 0, bit 0 the level of pin 1 (R50). -/
abbrev Pins := BitVec 2

end Sys2Proof
end

