-- ==== Sys2Proof/Syntax.lean ====
section
/-! DEFINITION. The names the spec gives: modes, colours, the operations agents ask for, and the rows of the opcode table. -/

namespace Sys2Proof

/-- The four relay modes (43_mode_decoder.md R86). -/
inductive Mode where
  | relayIdle
  | forwardA
  | forwardB
  | forwardBoth
  deriving DecidableEq, Repr, Inhabited

/-- The relay state (10_state.md R31). -/
inductive RelayState where
  | awaitingFirstByte
  | midTransfer
  deriving DecidableEq, Repr

/-- The six indicator colours (30_encoding.md R52); codes 6 and 7 are never produced (93 X2). -/
inductive Color where
  | amber
  | blue
  | red
  | green
  | white
  | cyan
  deriving DecidableEq, Repr, Inhabited

/-- A displayed strip colour, the arguments of `setStripColor` (00_scope.md R9, 10_state.md R29). -/
structure Rgb where
  r : Byte
  g : Byte
  b : Byte
  deriving DecidableEq, Repr, Inhabited

/-- The encoding space a row of the opcode table belongs to: the table's "format". -/
inductive Format where
  | step8   -- the step-selector word (R54)
  | mode2   -- the two-pin mode code (R51)
  | byte8   -- the sentinel decode of an accepted byte (R53)
  | map     -- the servo mapper's argument (R76)
  deriving DecidableEq, Repr

/-- The rows of the selector table (R58). -/
inductive Selector where
  | reset
  | rxArrive
  | tickCount
  | tickWrap
  | rxForward
  | rxAccept
  | txIssue
  | pollIdleMiss
  | pollIdleHit
  | pollFwdA
  | pollFwdB
  | pollFwdBoth
  deriving DecidableEq, Repr

/-- An operation an agent asks for, one per line of the trace syntax (R60), with its operands (R59). -/
inductive Op where
  | reset (calibOk : Bool)
  | rxArrive (b : Byte)
  | tick
  | rxService
  | txIssue
  | poll (p0 p1 : Bool)
  deriving DecidableEq, Repr, Inhabited

/-- What the model can be asked for at one step: an operation, a word of a reserved kind (R57), or one of the
block's pure functions alone (the rows of the table that have no step of their own, log entry 9). -/
inductive Request where
  | op (o : Op)
  | reserved (k0 : Bool)
  | decodeMode (p0 p1 : Bool)
  | colorOf (b : Byte)
  | mapServo (b : Byte)
  deriving DecidableEq, Repr

/-- What a decoder is given: the encoding space, the level of the CALIB_OK port (an operand of RESET that is no bit
of the word, R59), and the bytes, the first one first. -/
structure Fetched where
  format : Format
  calibOk : Bool
  bytes : List Byte
  deriving DecidableEq, Repr

/-- The instructions: one constructor per row of spec/opcode_table.json. -/
inductive Instr where
  | reset (calibOk : Bool)
  | rxArrive (b : Byte)
  | tickCount
  | tickWrap
  | rxForward
  | rxAccept
  | txIssue
  | pollIdleMiss
  | pollIdleHit
  | pollFwdA
  | pollFwdB
  | pollFwdBoth
  | decodeRelayIdle
  | decodeForwardA
  | decodeForwardB
  | decodeForwardBoth
  | acceptColorBlue
  | acceptColorRed
  | acceptColorGreen
  | acceptColorWhite
  | acceptColorAmber (b : Byte)
  | mapServo (b : Byte)
  deriving DecidableEq, Repr

end Sys2Proof
end

