-- ==== Sys2Proof/Config.lean ====
section
/-! DEFINITION. What the spec leaves open: the configuration (00_scope.md R9) and the free values (93 U1 to U15).
No opaque constant has a body, so a statement about one holds for every value of it. -/

namespace Sys2Proof

/-- The configuration a step reads (R9, R14). It is held beside the state because a step takes a state only; no step
writes it (log entry 7). -/
structure Params where
  /-- `LINK_PERIOD`, a number from 1 to 65536: the content of the link period register (R23). -/
  linkPeriod : Nat
  /-- `RX_CLEARS_LATCH`: whether the link reset also clears the idle latch (R81, 90 C9). -/
  rxClearsLatch : Bool
  /-- `STATUS_FIXED_LEVEL`: the level an idle miss drives (R106). -/
  statusFixedLevel : Bool
  deriving DecidableEq, Repr

/-- The legal configurations: `1 ≤ LINK_PERIOD ≤ 65536` (R9, R23). -/
abbrev Params.wf (p : Params) : Prop := 1 ≤ p.linkPeriod ∧ p.linkPeriod ≤ 65536

/-- The configuration State.reset carries. DESIGN CHOICE (log entry 7), unsafe: the spec leaves all three open; 4000
is one of the two observed periods (90 C1). -/
def Params.initial : Params := { linkPeriod := 4000, rxClearsLatch := false, statusFixedLevel := false }

/-- `COLOR_RGB` (R9, U10): the displayed colour of a colour code. Free (log entry 8), safe. -/
opaque Config.colorRgb : Color → Rgb

/-- How many nodes follow the head of a chain. Free (log entry 15), safe. -/
opaque Config.chainTail : Nat

/-- `CHAIN_LENGTH`, at least 1 (R9, R125, U12). -/
def Config.chainLength : Nat := Config.chainTail + 1

/-- U1: what the RESET after n others leaves in `stored_byte`, for the node of draw seed d, as a function of d and n.
Free; that it is a function of the two is the model\'s choice (log entries 4 and 24). -/
opaque Config.resetStoredByte : Nat → Nat → Byte

/-- U2: what the RESET after n others leaves in `rx_buf`, for the node of draw seed d, as a function of d and n.
Free; that it is a function of the two is the model\'s choice (log entries 4 and 24). -/
opaque Config.resetRxBuf : Nat → Nat → Byte

/-- U3: what the RESET after n others leaves in `servo_cmp`, for the node of draw seed d, as a function of d and n.
Free; that it is a function of the two is the model\'s choice (log entries 4 and 24). -/
opaque Config.resetServoCmp : Nat → Nat → Word

/-- U4: what the RESET after n others leaves in `status_led`, for the node of draw seed d, as a function of d and n.
Free; that it is a function of the two is the model\'s choice (log entries 4 and 24). -/
opaque Config.resetStatusLed : Nat → Nat → Bool

/-- U5: what the RESET after n others leaves in `mode_out`, for the node of draw seed d, as a function of d and n.
Free; that it is a function of the two is the model\'s choice (log entries 4 and 24). -/
opaque Config.resetModeOut : Nat → Nat → Pins

/-- U13 to U15, R70: the n-th step the agents choose when no request is listed, with its byte or pin levels.
Free (log entry 3), safe. -/
opaque Config.freeOp : Nat → Op

end Sys2Proof
end

