-- ==== Sys2Proof/WellFormed.lean ====
section
/-! DEFINITION. Which instructions are well-formed: those some encoding decodes to. -/

namespace Sys2Proof

/-- The four sentinel bytes (30_encoding.md R53). -/
def isSentinel (b : Byte) : Bool := b == 0x01 || b == 0x02 || b == 0x03 || b == 0xFF

/-- ACCEPT_COLOR_AMBER is the default row: it matches a byte only when no earlier row does (R53, R101). Every other
operand of every row is legal at every value (R47, R59). -/
def Instr.wellFormed : Instr → Bool
  | .acceptColorAmber b => !isSentinel b
  | .reset _ => true
  | .rxArrive _ => true
  | .tickCount => true
  | .tickWrap => true
  | .rxForward => true
  | .rxAccept => true
  | .txIssue => true
  | .pollIdleMiss => true
  | .pollIdleHit => true
  | .pollFwdA => true
  | .pollFwdB => true
  | .pollFwdBoth => true
  | .decodeRelayIdle => true
  | .decodeForwardA => true
  | .decodeForwardB => true
  | .decodeForwardBoth => true
  | .acceptColorBlue => true
  | .acceptColorRed => true
  | .acceptColorGreen => true
  | .acceptColorWhite => true
  | .mapServo _ => true

end Sys2Proof
end

