-- ==== Sys2Proof/Decode.lean ====
section
/-! DEFINITION. The decoders of the four encoding spaces (30_encoding.md R51, R53, R57 to R59), then the encoder. -/

namespace Sys2Proof

/-- Why a decoder gives no instruction. -/
inductive Reject where
  | reservedSelector   -- K = 110 or 111 (R57)
  | noSelector         -- no byte at all
  | noOperand          -- an RX_ARRIVE word without its operand byte (R59)
  deriving DecidableEq, Repr

/-- What a decoder answers: an instruction and the bytes after it, or why there is none. -/
inductive Decoded where
  | ok (i : Instr) (rest : List Byte)
  | reject (why : Reject)
  deriving DecidableEq, Repr

/-- The "match" column of the selector table (R58). -/
def Selector.pattern : Selector → Byte
  | .reset => 0x00
  | .rxArrive => 0x20
  | .tickCount => 0x40
  | .tickWrap => 0x48
  | .rxForward => 0x60
  | .rxAccept => 0x70
  | .txIssue => 0x80
  | .pollIdleMiss => 0xA0
  | .pollIdleHit => 0xA4
  | .pollFwdA => 0xA1
  | .pollFwdB => 0xA2
  | .pollFwdBoth => 0xA3

/-- The "mask" column of the selector table (R58). -/
def Selector.mask : Selector → Byte
  | .reset => 0xE0
  | .rxArrive => 0xE0
  | .tickCount => 0xE8
  | .tickWrap => 0xE8
  | .rxForward => 0xF0
  | .rxAccept => 0xF0
  | .txIssue => 0xE0
  | .pollIdleMiss => 0xE7
  | .pollIdleHit => 0xE7
  | .pollFwdA => 0xE3
  | .pollFwdB => 0xE3
  | .pollFwdBoth => 0xE3

/-- A word selects a row when `(S & mask) = match` (R58). -/
def Selector.selects (r : Selector) (w : Byte) : Bool := w &&& r.mask == r.pattern

/-- The rows of the selector table, in its order (R58). -/
def selectorTable : List Selector :=
  [.reset, .rxArrive, .tickCount, .tickWrap, .rxForward, .rxAccept, .txIssue, .pollIdleMiss, .pollIdleHit,
   .pollFwdA, .pollFwdB, .pollFwdBoth]

/-- The row a selector word selects; none for a reserved word (R57, R58). -/
def decodeSelector (w : Byte) : Option Selector := selectorTable.find? (fun r => r.selects w)

/-- STEP8: a selector word, then the operand byte when the word is RX_ARRIVE's (R57 to R59). -/
def decodeStep (calibOk : Bool) : List Byte → Decoded
  | [] => .reject .noSelector
  | w :: rest =>
    match decodeSelector w with
    | none => .reject .reservedSelector
    | some .reset => .ok (.reset calibOk) rest
    | some .rxArrive =>
      match rest with
      | [] => .reject .noOperand
      | b :: rest' => .ok (.rxArrive b) rest'
    | some .tickCount => .ok .tickCount rest
    | some .tickWrap => .ok .tickWrap rest
    | some .rxForward => .ok .rxForward rest
    | some .rxAccept => .ok .rxAccept rest
    | some .txIssue => .ok .txIssue rest
    | some .pollIdleMiss => .ok .pollIdleMiss rest
    | some .pollIdleHit => .ok .pollIdleHit rest
    | some .pollFwdA => .ok .pollFwdA rest
    | some .pollFwdB => .ok .pollFwdB rest
    | some .pollFwdBoth => .ok .pollFwdBoth rest

/-- MODE2: the row of a mode code, the two low bits of the byte (R51, mask 0b11). All four codes are legal. -/
def decodeModeCode (w : Byte) : Instr :=
  match w.getLsbD 1, w.getLsbD 0 with
  | false, false => .decodeRelayIdle
  | false, true => .decodeForwardA
  | true, false => .decodeForwardB
  | true, true => .decodeForwardBoth

/-- BYTE8: the sentinel decode, tried in the order of R53, the default row last. -/
def decodeSentinel (b : Byte) : Instr :=
  if b = 0x01 then .acceptColorBlue
  else if b = 0x02 then .acceptColorRed
  else if b = 0x03 then .acceptColorGreen
  else if b = 0xFF then .acceptColorWhite
  else .acceptColorAmber b

/-- The decoder: total on any bytes in any of the four encoding spaces, rejecting by name. -/
def decode (f : Fetched) : Decoded :=
  match f.format with
  | .step8 => decodeStep f.calibOk f.bytes
  | .mode2 =>
    match f.bytes with
    | [] => .reject .noSelector
    | w :: rest => .ok (decodeModeCode w) rest
  | .byte8 =>
    match f.bytes with
    | [] => .reject .noSelector
    | b :: rest => .ok (decodeSentinel b) rest
  | .map =>
    match f.bytes with
    | [] => .reject .noSelector
    | b :: rest => .ok (.mapServo b) rest

/-- The instruction of an opcode-table word of `nbits` bits. A table word does not say its encoding space: a word
shorter than a byte is a mode code (MODE2), any other is a selector word (STEP8) with its operand byte in bits 15..8,
read with CALIB_OK true (log entry 10). -/
def decodeTableWord (nbits w : Nat) : Option Instr :=
  let fetched : Fetched :=
    if nbits < 8 then { format := .mode2, calibOk := true, bytes := [BitVec.ofNat 8 w] }
    else { format := .step8, calibOk := true, bytes := [BitVec.ofNat 8 w, BitVec.ofNat 8 (w / 256)] }
  match decode fetched with
  | .ok i _ => some i
  | .reject _ => none

/-- A selector word of a row: its fixed bits, and its don't-care bits from `dc` (R56, R58). -/
def Selector.word (r : Selector) (dc : Byte) : Byte := r.pattern ||| (dc &&& ~~~r.mask)

/-- The code of an instruction whose don't-care bits are those of `dc`: a STEP8 row's word has the don't-care bits of
its pattern (R58), a mode code leaves the six bits above it free, BYTE8 and MAP have none. -/
def encodeWith (dc : Byte) (i : Instr) : Fetched :=
  let stepCode (r : Selector) : Fetched := { format := .step8, calibOk := true, bytes := [r.word dc] }
  let modeCode (m : Byte) : Fetched := { format := .mode2, calibOk := true, bytes := [m ||| (dc &&& 0xFC)] }
  let byteCode (b : Byte) : Fetched := { format := .byte8, calibOk := true, bytes := [b] }
  match i with
  | .reset ok => { format := .step8, calibOk := ok, bytes := [Selector.reset.word dc] }
  | .rxArrive b => { format := .step8, calibOk := true, bytes := [Selector.rxArrive.word dc, b] }
  | .tickCount => stepCode .tickCount
  | .tickWrap => stepCode .tickWrap
  | .rxForward => stepCode .rxForward
  | .rxAccept => stepCode .rxAccept
  | .txIssue => stepCode .txIssue
  | .pollIdleMiss => stepCode .pollIdleMiss
  | .pollIdleHit => stepCode .pollIdleHit
  | .pollFwdA => stepCode .pollFwdA
  | .pollFwdB => stepCode .pollFwdB
  | .pollFwdBoth => stepCode .pollFwdBoth
  | .decodeRelayIdle => modeCode 0
  | .decodeForwardA => modeCode 1
  | .decodeForwardB => modeCode 2
  | .decodeForwardBoth => modeCode 3
  | .acceptColorBlue => byteCode 0x01
  | .acceptColorRed => byteCode 0x02
  | .acceptColorGreen => byteCode 0x03
  | .acceptColorWhite => byteCode 0xFF
  | .acceptColorAmber b => byteCode b
  | .mapServo b => { format := .map, calibOk := true, bytes := [b] }

/-- The code of an instruction with every don't-care bit 0. -/
def encode (i : Instr) : Fetched := encodeWith 0 i

end Sys2Proof
end

