-- ==== Sys2Proof/Machine/State.lean ====
section
/-! DEFINITION. The state of one node (10_state.md R14 to R28), the outcomes of a step, and the state after reset. -/

namespace Sys2Proof.Machine

/-- The boot outcome (R15). -/
inductive Phase where
  | run
  | halted
  deriving DecidableEq, Repr

/-- An output event of the history (00_scope.md R13). -/
inductive Event where
  | servoWrite (v : Word)
  | strip (c : Color)
  | tx (b : Byte)
  | modeOut (m : Pins)
  | status (l : Bool)
  deriving DecidableEq, Repr

/-- What the last request came to: the model's own field, not the spec's (log entries 1 and 9). -/
inductive Report where
  | taken                -- a step was taken
  | noStep               -- the operation asked for had no step: the agent is held, nothing changed (R114, 93 X3)
  | mode (m : Mode)      -- the value a mode-decoder row returned
  | color (c : Color)    -- the value a colour row returned
  | compare (v : Word)   -- the value MAP_SERVO returned
  deriving DecidableEq, Repr

/-- The state of one node: the fields of R15 to R28 in the spec's order, then the configuration (R9, R23), then the
model's own fields. -/
structure State where
  /-- `phase` (R15). -/
  phase : Phase
  /-- `is_first`, the source's `isFirstByteOfTransfer` (R16): true is AWAITING_FIRST_BYTE, false MID_TRANSFER (R31). -/
  isFirst : Bool
  /-- `stored_byte`, the last accepted byte (R17). -/
  storedByte : Byte
  /-- `rx_buf`, the one-byte receive buffer (R18). -/
  rxBuf : Byte
  /-- `rx_pending`, the receive-complete request (R19, R115). -/
  rxPending : Bool
  /-- `fwd_wait`: the byte a blocked `sendByte` holds, or invalid (R20). -/
  fwdWait : Option Byte
  /-- `link_cnt`, the Link Timeout Monitor's counter (R21). -/
  linkCnt : Word
  /-- `idle_latch`, the source's `timerA1_done` (R22). -/
  idleLatch : Bool
  /-- `servo_cmp`, the compare value last written (R24). -/
  servoCmp : Word
  /-- `strip_color`: none, or the colour last handed to the strip since reset (R25). -/
  stripColor : Option Color
  /-- `status_led` (R26). -/
  statusLed : Bool
  /-- `mode_out`: bit 1 is ModeOut0, bit 0 is ModeOut1 (R27). -/
  modeOut : Pins
  /-- `hist`, the output events, oldest first (R28). -/
  hist : List Event
  /-- The configuration: the link period register (R23) and the two other parameters a step reads (R9). -/
  params : Params
  /-- The requests the agents will make, in order: the model's own field (log entry 3). -/
  agenda : List Request
  /-- How many free scheduling choices were drawn: the model's own field (log entry 3). -/
  choices : Nat
  /-- Which row of draws this node's RESETs take their unspecified values from: the model's own field, written by no step
  (log entry 24). -/
  drawSeed : Nat
  /-- How many RESETs drew their unspecified values: the model's own field (log entry 4). -/
  draws : Nat
  /-- What the last request came to: the model's own field (log entries 1 and 9). -/
  report : Report
  deriving DecidableEq, Repr

/-- The faults (60_exceptions.md R113, R114). -/
inductive Fault where
  /-- Code 1. Raised by every operation but RESET when `phase = HALTED` (R131, 93 X4). Safe: the hardware is in an
  infinite loop and takes no step. -/
  | clockCalibrationMissing
  deriving DecidableEq, Repr

/-- The refusals. -/
inductive Refusal where
  /-- Raised by exec for an instruction that has no meaning yet; no arm does. Safe. -/
  | notModelled (mnemonic : String)
  /-- Code 1. Raised by step for a selector word with K = 110 or 111 (R57, R114). Safe: the word names no operation. -/
  | reservedSelector
  /-- Raised by step if the fetched bytes end before the instruction does; a request always supplies all its bytes, so
  no step raises it. Safe. -/
  | truncatedFetch
  deriving DecidableEq, Repr

/-- The node right after a RESET with CALIB_OK true (70_reset_and_hazards.md R130), at the start of a run. The five
values the spec leaves unspecified are 0 here (DESIGN CHOICE, log entry 5, unsafe); a RESET step draws them free. -/
def State.reset : State :=
  { phase := .run
    isFirst := true
    storedByte := 0
    rxBuf := 0
    rxPending := false
    fwdWait := none
    linkCnt := 0
    idleLatch := false
    servoCmp := 0
    stripColor := none
    statusLed := false
    modeOut := 0
    hist := []
    params := Params.initial
    agenda := []
    choices := 0
    drawSeed := 0
    draws := 0
    report := .taken }

end Sys2Proof.Machine
end

