-- ==== Sys2Proof/Machine/Flags.lean ====
section
/-! DEFINITION. The flags a step's selector word is computed from (30_encoding.md R54) and the enabling conditions
(40_step_model.md R64 to R69). -/

namespace Sys2Proof.Machine

/-- `F`: the node awaits the first byte of a transfer (R54, R31). -/
def flagF (s : State) : Bool := s.isFirst

/-- `W`: the next tick completes a link period, `link_cnt + 1 = LINK_PERIOD` on naturals (R54, R84). -/
def flagW (s : State) : Bool := decide (s.linkCnt.toNat + 1 = s.params.linkPeriod)

/-- `L`: the idle latch (R54). -/
def flagL (s : State) : Bool := s.idleLatch

/-- The condition of RX_SERVICE besides `phase = RUN`: a byte is pending and no handler runs (R66). -/
def rxServiceReady (s : State) : Bool := s.rxPending && s.fwdWait.isNone

/-- The condition of TX_ISSUE besides `phase = RUN`: a handler waits in `sendByte` (R67). -/
def txIssueReady (s : State) : Bool := s.fwdWait.isSome

/-- The condition of POLL besides `phase = RUN`: no handler runs (R68). -/
def pollReady (s : State) : Bool := s.fwdWait.isNone

/-- The single interrupt enable (60_exceptions.md R116): no field, but 1 for every RUN state outside a handler. -/
def interruptEnable (s : State) : Bool := decide (s.phase = .run) && s.fwdWait.isNone

/-- The relay state, which `is_first` stores (R31). -/
def relayState (s : State) : RelayState := if s.isFirst then .awaitingFirstByte else .midTransfer

/-- The node is in its main loop when no byte waits for the transmitter, and in the forward branch of the receive handler
when one does (R30). -/
def inMainLoop (s : State) : Bool := s.fwdWait.isNone

/-- The enabling condition of an operation (R64 to R69). -/
def Enabled (o : Op) (s : State) : Bool :=
  match o with
  | .reset _ => true
  | .rxArrive _ => decide (s.phase = .run)
  | .tick => decide (s.phase = .run)
  | .rxService => decide (s.phase = .run) && rxServiceReady s
  | .txIssue => decide (s.phase = .run) && txIssueReady s
  | .poll _ _ => decide (s.phase = .run) && pollReady s

end Sys2Proof.Machine
end

