-- ==== Sys2Proof/Machine/Operands.lean ====
section
/-! DEFINITION. Operands and words: pin pairs, the selector word of a request in the state it meets (30_encoding.md
R50, R54, R55, R59), and the request a table word stands for. -/

namespace Sys2Proof.Machine

/-- `{p0, p1}`: the code of two pin levels, `p0` in the more significant bit (R10, R50). -/
def pins (p0 p1 : Bool) : Pins := BitVec.ofBool p0 ++ BitVec.ofBool p1

/-- The kind field `K` of an operation (R55). -/
def kindOf : Op → BitVec 3
  | .reset _ => 0b000
  | .rxArrive _ => 0b001
  | .tick => 0b010
  | .rxService => 0b011
  | .txIssue => 0b100
  | .poll _ _ => 0b101

/-- The mode field `M`: the sampled pins for POLL, 00 for every other kind (R54). -/
def modeFieldOf : Op → Pins
  | .poll p0 p1 => pins p0 p1
  | _ => 0

/-- The selector word of kind `k` and mode field `m` in state `s`: `K`, `F`, `W`, `L`, `M` from bit 7 down (R54). -/
def selectorWord (k : BitVec 3) (m : Pins) (s : State) : Byte :=
  k ++ BitVec.ofBool (flagF s) ++ BitVec.ofBool (flagW s) ++ BitVec.ofBool (flagL s) ++ m

/-- What the decoder is given for a request (R54, R59): the selector word, the operand byte of an RX_ARRIVE, the
CALIB_OK level of a RESET; for a pure function its argument in its own encoding space. -/
def fetch (r : Request) (s : State) : Fetched :=
  match r with
  | .op (.reset ok) => { format := .step8, calibOk := ok, bytes := [selectorWord 0b000 0 s] }
  | .op (.rxArrive b) => { format := .step8, calibOk := true, bytes := [selectorWord 0b001 0 s, b] }
  | .op o => { format := .step8, calibOk := true, bytes := [selectorWord (kindOf o) (modeFieldOf o) s] }
  | .reserved k0 => { format := .step8, calibOk := true, bytes := [selectorWord ((0b11 : BitVec 2) ++ BitVec.ofBool k0) 0 s] }
  | .decodeMode p0 p1 => { format := .mode2, calibOk := true, bytes := [(pins p0 p1).setWidth 8] }
  | .colorOf b => { format := .byte8, calibOk := true, bytes := [b] }
  | .mapServo b => { format := .map, calibOk := true, bytes := [b] }

/-- A hexadecimal digit. -/
def hexDigit (n : Nat) : Char := Char.ofNat (if n < 10 then 48 + n else 55 + n)

/-- A pin level as a trace line writes it. -/
def levelText (l : Bool) : String := if l then "1" else "0"

/-- The line of an operation in the trace syntax (R60). -/
def traceLine : Op → String
  | .reset true => "RESET ok"
  | .reset false => "RESET fail"
  | .rxArrive b => "RX 0x" ++ String.ofList [hexDigit (b.toNat / 16), hexDigit (b.toNat % 16)]
  | .tick => "TICK"
  | .rxService => "SVC"
  | .txIssue => "TXI"
  | .poll p0 p1 => "POLL " ++ levelText p0 ++ " " ++ levelText p1

/-- Whether an RX_SERVICE asked for in this state is an RX_FORWARD: it has a step, and the branch bit selects forwarding
(R56, R66). -/
def servicesByForwarding (s : State) : Bool := Enabled .rxService s && !flagF s

/-- SEND: the arrival, its service, and the transmit when the service was an RX_FORWARD (R61). The service meets the state
the arrival leaves, with a byte pending; while a byte waits for the transmitter it has no step (R66), so it was no
RX_FORWARD and no transmit follows. -/
def sendOps (s : State) (b : Byte) : List Op :=
  [.rxArrive b, .rxService] ++ (if servicesByForwarding { s with rxBuf := b, rxPending := true } then [.txIssue] else [])

/-- TICKS n: n ticks (R61). -/
def ticksOps (n : Nat) : List Op := List.replicate n .tick

/-- IDLE: the ticks that complete the period (R61). -/
def idleOps (s : State) : List Op := ticksOps (s.params.linkPeriod - s.linkCnt.toNat)

/-- The refusal of a word that decodes to no instruction (R57). -/
def refusalOf : Reject → Refusal
  | .reservedSelector => .reservedSelector
  | .noSelector => .truncatedFetch
  | .noOperand => .truncatedFetch

/-- The next request: the first listed one, or, when none is listed, a free choice of the agents (R70, log entry 3). -/
def nextRequest (s : State) : Request :=
  match s.agenda with
  | r :: _ => r
  | [] => .op (Config.freeOp s.choices)

/-- The state after the next request is taken off: one entry less, or one free choice more (log entry 3). -/
def takeRequest (s : State) : State :=
  match s.agenda with
  | _ :: rest => { s with agenda := rest }
  | [] => { s with choices := s.choices + 1 }

/-- The request a table word stands for: its kind and mode field name the operation, its second byte is the operand
byte; a word shorter than a byte is a mode code (log entry 10). -/
def requestOfWord (nbits w : Nat) : Request :=
  if nbits < 8 then .decodeMode (w.testBit 1) (w.testBit 0)
  else
    match (w / 32) % 8 with
    | 0 => .op (.reset true)
    | 1 => .op (.rxArrive (BitVec.ofNat 8 (w / 256)))
    | 2 => .op .tick
    | 3 => .op .rxService
    | 4 => .op .txIssue
    | 5 => .op (.poll (w.testBit 1) (w.testBit 0))
    | 6 => .reserved false
    | _ => .reserved true

/-- A selector word is computed from the state it meets (R54), and a step exists only where it is enabled (R64 to R68).
`prepare` puts into the state the fields that select the row of word `w` and enable it, and changes no other
(log entry 11): for TICK the counter when `W` differs, for RX_SERVICE `is_first` and a pending byte, for TX_ISSUE a byte
in the forward wait, for POLL no forward wait and, in mode 00, the latch. -/
def prepare (nbits w : Nat) (s : State) : State :=
  if nbits < 8 then s
  else
    match (w / 32) % 8 with
    | 1 => { s with phase := .run }
    | 2 =>
      { s with
        phase := .run
        linkCnt :=
          if flagW s = w.testBit 3 then s.linkCnt
          else if w.testBit 3 then BitVec.ofNat 16 (s.params.linkPeriod - 1)
          else 0 }
    | 3 => { s with phase := .run, isFirst := w.testBit 4, rxPending := true, fwdWait := none }
    | 4 => { s with phase := .run, fwdWait := some (s.fwdWait.getD 0) }
    | 5 =>
      { s with
        phase := .run
        fwdWait := none
        idleLatch := if w % 4 = 0 then w.testBit 2 else s.idleLatch }
    | _ => s

end Sys2Proof.Machine
end

