-- ==== Sys2Proof/Machine/Ops.lean ====
section
/-! DEFINITION. The named operations: the pure functions, the parts shared by steps, and the form of a step. -/

namespace Sys2Proof.Machine

/-! ## Pure functions -/

/-- `MAP(b) = zext_16(b) * 15 + 4000`, computed on naturals and written as a 16-bit value (41_servo_mapper.md R76). -/
def mapServo (b : Byte) : Word := BitVec.ofNat 16 (b.toNat * 15 + 4000)

/-- `colorOf(b)`, the indicator colour of an accepted byte (44_relay_arbiter.md R96). -/
def colorOf (b : Byte) : Color :=
  if b = 0x01 then .blue
  else if b = 0x02 then .red
  else if b = 0x03 then .green
  else if b = 0xFF then .white
  else .amber

/-- `decodeMode(p0, p1)` (43_mode_decoder.md R86). -/
def decodeMode (p0 p1 : Bool) : Mode :=
  match p0, p1 with
  | false, false => .relayIdle
  | false, true => .forwardA
  | true, false => .forwardB
  | true, true => .forwardBoth

/-- The colour code of an indicator colour (30_encoding.md R52). -/
def colorCode : Color → BitVec 3
  | .amber => 0
  | .blue => 1
  | .red => 2
  | .green => 3
  | .white => 4
  | .cyan => 5

/-- The mode code of a mode (30_encoding.md R51). -/
def modeCode : Mode → Pins
  | .relayIdle => 0b00
  | .forwardA => 0b01
  | .forwardB => 0b10
  | .forwardBoth => 0b11

/-- The spec's number of a fault (60_exceptions.md R114, 93 X4). -/
def faultCode : Fault → Nat
  | .clockCalibrationMissing => 1

/-- The spec's number of a refusal (60_exceptions.md R114, 93 X1): ReservedSelector is the only one it lists, so the
model's other refusals have none. -/
def refusalCode (r : Refusal) : Option Nat := if r = .reservedSelector then some 1 else none

/-- What the strip displays: `COLOR_RGB` of the colour last handed to it (R13, R96); nothing is known before the first
(93 U6). -/
def State.displayed (s : State) : Option Rgb := s.stripColor.map Config.colorRgb

/-! ## Parts of steps -/

/-- `emit E`: append an output event to the history (R11, R13). -/
def State.emit (s : State) (e : Event) : State := { s with hist := s.hist ++ [e] }

/-- Write the servo compare register and emit it (R78). -/
def State.writeServo (s : State) (v : Word) : State := { s with servoCmp := v, hist := s.hist ++ [.servoWrite v] }

/-- Hand a colour to the LED strip and emit it (R25). -/
def State.writeStrip (s : State) (c : Color) : State := { s with stripColor := some c, hist := s.hist ++ [.strip c] }

/-- Drive the status LED and emit its level (R26). -/
def State.writeStatus (s : State) (l : Bool) : State := { s with statusLed := l, hist := s.hist ++ [.status l] }

/-- Drive the mode-propagation pins with the sampled pair and emit it (43_mode_decoder.md R91). -/
def State.writeModeOut (s : State) (m : Pins) : State := { s with modeOut := m, hist := s.hist ++ [.modeOut m] }

/-- `onByteReceived()`, the link reset: the counter to 0, and the latch too if RX_CLEARS_LATCH (42_link_timeout.md R81). -/
def State.linkReset (s : State) : State :=
  { s with linkCnt := 0, idleLatch := if s.params.rxClearsLatch then false else s.idleLatch }

/-- `checkIdle()`: the latch, which is consumed when it is 1 (42_link_timeout.md R82). -/
def State.checkIdle (s : State) : Bool × State :=
  (s.idleLatch, { s with idleLatch := if s.idleLatch then false else s.idleLatch })

/-- ENTERING THE RECEIVE HANDLER, the one interrupt entry the block has (60_exceptions.md R115, R117, R119): the
handler's read of `rx_buf` clears the request. Nothing is saved and there is no vector (R119). -/
def State.enterHandler (s : State) : State := { s with rxPending := false }

/-- RETURNING FROM THE FORWARD BRANCH of the receive handler (R103, R120): the wait ends, which sets the interrupt enable
again (R116). Nothing is restored, since nothing was saved. -/
def State.leaveHandler (s : State) : State := { s with fwdWait := none }

/-- The accept branch of the receive handler on byte `b`, in the order of the rule (R95). -/
def State.accept (s : State) (b : Byte) : State :=
  let s := { s with storedByte := b }
  let s := s.writeServo (mapServo b)
  let s := s.writeStrip (colorOf b)
  let s := { s with isFirst := false }
  s.linkReset

/-- The forward branch up to the transmit wait (R102). -/
def State.startForward (s : State) (b : Byte) : State := { s with fwdWait := some b }

/-- The forward branch after the transmit wait: transmit, pass-through colour, link reset, return (R103). -/
def State.finishForward (s : State) (b : Byte) : State :=
  let s := s.emit (.tx b)
  let s := s.writeStrip .cyan
  let s := s.linkReset
  s.leaveHandler

/-- The common part of every POLL: the sampled pins go out on the mode-propagation pins (44_relay_arbiter.md R104). -/
def State.pollCommon (s : State) (p0 p1 : Bool) : State := s.writeModeOut (pins p0 p1)

/-- The part of a POLL in mode RELAY_IDLE whose `checkIdle` returned 1 (R105): re-arm and toggle the status LED. -/
def State.idleHit (s : State) : State :=
  let s := { s with isFirst := true }
  s.writeStatus (!s.statusLed)

/-- The part of a POLL in mode RELAY_IDLE whose `checkIdle` returned 0 (R106): the fixed level. -/
def State.idleMiss (s : State) : State := s.writeStatus s.params.statusFixedLevel

/-- A POLL in mode RELAY_IDLE (R104 to R106): the mode-out pins, then `checkIdle`, then the hit or the miss part. -/
def State.pollIdle (s : State) : State :=
  let s := s.pollCommon false false
  let r := s.checkIdle
  if r.1 then r.2.idleHit else r.2.idleMiss

/-- What RESET does to the node (70_reset_and_hazards.md R130). The five unspecified values are free (93 U1 to U5, log
entry 4); `hist` and the configuration are kept. DESIGN CHOICE (log entry 24): the spec puts each draw under no law, here it
is a fixed function of the node's draw seed and its count of RESETs, so states equal in both draw equal values. -/
def State.boot (s : State) (calibOk : Bool) : State :=
  { s with
    phase := if calibOk then .run else .halted
    isFirst := true
    rxPending := false
    fwdWait := none
    linkCnt := 0
    idleLatch := false
    stripColor := none
    storedByte := Config.resetStoredByte s.drawSeed s.draws
    rxBuf := Config.resetRxBuf s.drawSeed s.draws
    servoCmp := Config.resetServoCmp s.drawSeed s.draws
    statusLed := Config.resetStatusLed s.drawSeed s.draws
    modeOut := Config.resetModeOut s.drawSeed s.draws
    draws := s.draws + 1 }

/-- Note in the model's own report what a request came to (log entries 1 and 9). -/
def State.reporting (s : State) (r : Report) : State := { s with report := r }

/-! ## The form of a step -/

/-- A step was taken. -/
def taken (s : State) : Host.Outcome State Fault Refusal := .next (s.reporting .taken)

/-- No step: the agent is held and nothing of the node changes (60_exceptions.md R114, 93 X3, log entry 1). -/
def held (s : State) : Host.Outcome State Fault Refusal := .next (s.reporting .noStep)

/-- An operation other than RESET: in HALTED the fault of R131; in RUN its effect where `ready`, else no step
(R64 to R68). -/
def whenReady (s : State) (ready : Bool) (after : State) : Host.Outcome State Fault Refusal :=
  match s.phase with
  | .halted => .fault .clockCalibrationMissing
  | .run => if ready then taken after else held s

/-- A pure function's row: no state of the node is written; the value returned is reported (log entry 9). -/
def returning (s : State) (r : Report) : Host.Outcome State Fault Refusal := .next (s.reporting r)

end Sys2Proof.Machine
end

