-- ==== Sys2Proof/Machine/Link.lean ====
section
/-! DEFINITION. The Link Timeout Monitor's steps (42_link_timeout.md R79, R80). -/

namespace Sys2Proof.Machine

/-- TICK_COUNT: a count that does not complete a period (R79). -/
def execTickCount (s : State) : Host.Outcome State Fault Refusal :=
  whenReady s (!flagW s) { s with linkCnt := s.linkCnt + 1 }

/-- TICK_WRAP: the count that completes a period sets the latch and restarts the counter (R80). -/
def execTickWrap (s : State) : Host.Outcome State Fault Refusal :=
  whenReady s (flagW s) { s with linkCnt := 0, idleLatch := true }

end Sys2Proof.Machine
end

