-- ==== Sys2Proof/Machine/Poll.lean ====
section
/-! DEFINITION. The main-loop poll (44_relay_arbiter.md R104 to R109), one row by mode and latch. -/

namespace Sys2Proof.Machine

/-- POLL_IDLE_MISS: mode RELAY_IDLE and the latch clear (R106). -/
def execPollIdleMiss (s : State) : Host.Outcome State Fault Refusal :=
  whenReady s (pollReady s && !flagL s) s.pollIdle

/-- POLL_IDLE_HIT: mode RELAY_IDLE and the latch set (R105). -/
def execPollIdleHit (s : State) : Host.Outcome State Fault Refusal :=
  whenReady s (pollReady s && flagL s) s.pollIdle

/-- POLL_FWD_A: mode FORWARD_A, pins 01; no idle check (R107). -/
def execPollFwdA (s : State) : Host.Outcome State Fault Refusal :=
  whenReady s (pollReady s) (s.pollCommon false true)

/-- POLL_FWD_B: mode FORWARD_B, pins 10; no idle check (R108). -/
def execPollFwdB (s : State) : Host.Outcome State Fault Refusal :=
  whenReady s (pollReady s) (s.pollCommon true false)

/-- POLL_FWD_BOTH: mode FORWARD_BOTH, pins 11; no idle check (R109). -/
def execPollFwdBoth (s : State) : Host.Outcome State Fault Refusal :=
  whenReady s (pollReady s) (s.pollCommon true true)

end Sys2Proof.Machine
end

