-- ==== Sys2Proof/Machine/Pure.lean ====
section
/-! DEFINITION. The table's rows for the block's pure functions: the mode decoder (43_mode_decoder.md R86 to R90), the
colour selector (44_relay_arbiter.md R96 to R101) and the servo mapper (41_servo_mapper.md R76). The spec gives them no
step and no enabling condition: a row returns its value and writes no state of the node (log entry 9). -/

namespace Sys2Proof.Machine

/-- DECODE_RELAY_IDLE: mode code 00 (R87). -/
def execDecodeRelayIdle (s : State) : Host.Outcome State Fault Refusal := returning s (.mode (decodeMode false false))

/-- DECODE_FORWARD_A: mode code 01 (R88). -/
def execDecodeForwardA (s : State) : Host.Outcome State Fault Refusal := returning s (.mode (decodeMode false true))

/-- DECODE_FORWARD_B: mode code 10 (R89). -/
def execDecodeForwardB (s : State) : Host.Outcome State Fault Refusal := returning s (.mode (decodeMode true false))

/-- DECODE_FORWARD_BOTH: mode code 11 (R90). -/
def execDecodeForwardBoth (s : State) : Host.Outcome State Fault Refusal := returning s (.mode (decodeMode true true))

/-- ACCEPT_COLOR_BLUE: byte 0x01 (R97). -/
def execAcceptColorBlue (s : State) : Host.Outcome State Fault Refusal := returning s (.color (colorOf 0x01))

/-- ACCEPT_COLOR_RED: byte 0x02 (R98). -/
def execAcceptColorRed (s : State) : Host.Outcome State Fault Refusal := returning s (.color (colorOf 0x02))

/-- ACCEPT_COLOR_GREEN: byte 0x03 (R99). -/
def execAcceptColorGreen (s : State) : Host.Outcome State Fault Refusal := returning s (.color (colorOf 0x03))

/-- ACCEPT_COLOR_WHITE: byte 0xFF (R100). -/
def execAcceptColorWhite (s : State) : Host.Outcome State Fault Refusal := returning s (.color (colorOf 0xFF))

/-- ACCEPT_COLOR_AMBER: the default row, the colour of a byte no earlier row matches (R101). -/
def execAcceptColorAmber (b : Byte) (s : State) : Host.Outcome State Fault Refusal := returning s (.color (colorOf b))

/-- MAP_SERVO: the compare value of a byte (R76). -/
def execMapServo (b : Byte) (s : State) : Host.Outcome State Fault Refusal := returning s (.compare (mapServo b))

end Sys2Proof.Machine
end

