-- ==== Sys2Proof/Machine/Receive.lean ====
section
/-! DEFINITION. The receive event and the receive handler (44_relay_arbiter.md R93 to R103). -/

namespace Sys2Proof.Machine

/-- RX_ARRIVE(b): the byte goes into the buffer, over an unserviced one (R93). -/
def execRxArrive (b : Byte) (s : State) : Host.Outcome State Fault Refusal :=
  whenReady s true { s with rxBuf := b, rxPending := true }

/-- RX_ACCEPT: RX_SERVICE with `is_first = 1`, the first byte of a transfer is consumed locally (R94, R95). -/
def execRxAccept (s : State) : Host.Outcome State Fault Refusal :=
  whenReady s (rxServiceReady s && flagF s) (s.enterHandler.accept s.rxBuf)

/-- RX_FORWARD: RX_SERVICE with `is_first = 0`, the byte is taken for relaying (R94, R102). -/
def execRxForward (s : State) : Host.Outcome State Fault Refusal :=
  whenReady s (rxServiceReady s && !flagF s) (s.enterHandler.startForward s.rxBuf)

/-- TX_ISSUE: the transmitter takes the waiting byte (R103). -/
def execTxIssue (s : State) : Host.Outcome State Fault Refusal :=
  whenReady s (txIssueReady s) (s.finishForward (s.fwdWait.getD 0))

end Sys2Proof.Machine
end

