-- ==== Sys2Proof/Machine/Reset.lean ====
section
/-! DEFINITION. RESET (70_reset_and_hazards.md R130, R131). -/

namespace Sys2Proof.Machine

/-- RESET(calib_ok), enabled in every state (R69, R130). With CALIB_OK false the node goes to HALTED, the state that is
the fault ClockCalibrationMissing (R131). -/
def execReset (calibOk : Bool) (s : State) : Host.Outcome State Fault Refusal := taken (s.boot calibOk)

end Sys2Proof.Machine
end

