-- ==== Sys2Proof/Machine/Dispatch.lean ====
section
/-! DEFINITION. One arm per constructor of Instr, each one call of its meaning. -/

namespace Sys2Proof.Machine

/-- The meaning of every instruction. -/
def exec (i : Instr) (s : State) : Host.Outcome State Fault Refusal :=
  match i with
  | .reset calibOk => Sys2Proof.Machine.execReset calibOk s
  | .rxArrive b => Sys2Proof.Machine.execRxArrive b s
  | .tickCount => Sys2Proof.Machine.execTickCount s
  | .tickWrap => Sys2Proof.Machine.execTickWrap s
  | .rxForward => Sys2Proof.Machine.execRxForward s
  | .rxAccept => Sys2Proof.Machine.execRxAccept s
  | .txIssue => Sys2Proof.Machine.execTxIssue s
  | .pollIdleMiss => Sys2Proof.Machine.execPollIdleMiss s
  | .pollIdleHit => Sys2Proof.Machine.execPollIdleHit s
  | .pollFwdA => Sys2Proof.Machine.execPollFwdA s
  | .pollFwdB => Sys2Proof.Machine.execPollFwdB s
  | .pollFwdBoth => Sys2Proof.Machine.execPollFwdBoth s
  | .decodeRelayIdle => Sys2Proof.Machine.execDecodeRelayIdle s
  | .decodeForwardA => Sys2Proof.Machine.execDecodeForwardA s
  | .decodeForwardB => Sys2Proof.Machine.execDecodeForwardB s
  | .decodeForwardBoth => Sys2Proof.Machine.execDecodeForwardBoth s
  | .acceptColorBlue => Sys2Proof.Machine.execAcceptColorBlue s
  | .acceptColorRed => Sys2Proof.Machine.execAcceptColorRed s
  | .acceptColorGreen => Sys2Proof.Machine.execAcceptColorGreen s
  | .acceptColorWhite => Sys2Proof.Machine.execAcceptColorWhite s
  | .acceptColorAmber b => Sys2Proof.Machine.execAcceptColorAmber b s
  | .mapServo b => Sys2Proof.Machine.execMapServo b s

end Sys2Proof.Machine
end

