-- ==== Sys2Proof/Machine/Step.lean ====
section
/-! DEFINITION. One step: take the next request, compute its word in the state it meets, decode it, execute it
(30_encoding.md R54, R57; 40_step_model.md R63). -/

namespace Sys2Proof.Machine

/-- Run a request in a state: the word is fetched (R54), decoded (R58) and executed; a word that decodes to no operation
is refused and changes nothing (R57). -/
def runRequest (r : Request) (s : State) : Host.Outcome State Fault Refusal :=
  match decode (fetch r s) with
  | .ok i _ => exec i s
  | .reject why => .refused (refusalOf why)

/-- One step of the node: the request the agents make next (R70), run. -/
def step (s : State) : Host.Outcome State Fault Refusal := runRequest (nextRequest s) (takeRequest s)

/-- `s` with the instruction of table word `w` as the one the next step runs: its request is the next of the agenda, and
the fields that select and enable its row are set (log entries 10 and 11). -/
def State.withFetchWord (s : State) (nbits w : Nat) : State :=
  let s := prepare nbits w s
  { s with agenda := requestOfWord nbits w :: s.agenda }

end Sys2Proof.Machine
end

