-- ==== Sys2Proof/Machine/Chain.lean ====
section
/-! DEFINITION. The daisy chain (60_exceptions.md R125 to R127): nodes in a row, bytes on the wires between them, and a
step of one node. It is built over the node's own step and adds nothing to it. -/

namespace Sys2Proof.Machine

/-- A node in its place in the chain. -/
structure ChainNode where
  /-- The node's own state; nodes share none (R125). -/
  node : State
  /-- Whether the node has polled since its last reset, so that its mode-out pins are driven (R127). -/
  polled : Bool
  /-- The bytes on the wire towards this node, the oldest first (R126). -/
  line : List Byte
  deriving DecidableEq, Repr

/-- A chain, node 0 the head (R125). -/
abbrev Chain := List ChainNode

/-- A chain of `n` nodes, each right after its own reset, nothing on the wires (R125). Each node has a draw seed of its
own, its place, so that the draws of its RESETs are related to no other node's (log entry 24); that the nodes start alike in
every other field is the model's choice (log entries 5 to 7 and 15). -/
def chainStart (n : Nat) : Chain :=
  (List.range n).map (fun i => { node := { State.reset with drawSeed := i }, polled := false, line := [] })

/-- The chain of the configuration, `CHAIN_LENGTH` nodes (R9, R125). -/
def chainReset : Chain := chainStart Config.chainLength

/-- The bytes an event list hands to the transmitter, in order (R13, R126). -/
def txBytes : List Event → List Byte
  | [] => []
  | .tx b :: es => b :: txBytes es
  | _ :: es => txBytes es

/-- What a step transmitted: the `Tx` events it appended (R28, R126). -/
def transmitted (s t : State) : List Byte := txBytes (t.hist.drop s.hist.length)

/-- The levels on node `i`'s mode-select pins: the upstream node's mode-out pins once it has polled; before that, and for
the head, whatever the straps give, the levels asked for (R127). -/
def pinsAt (c : Chain) (i : Nat) (p0 p1 : Bool) : Bool × Bool :=
  match i with
  | 0 => (p0, p1)
  | k + 1 =>
    match getElem? c k with
    | some up => if up.polled then (up.node.modeOut.getLsbD 1, up.node.modeOut.getLsbD 0) else (p0, p1)
    | none => (p0, p1)

/-- The operation node `n` in place `i` takes when `o` is asked of it: past the head a received byte is the oldest one on
the wire (R126; none if the wire is empty), and a poll samples the upstream node's pins (R127). -/
def chainOp (c : Chain) (i : Nat) (n : ChainNode) (o : Op) : Option Op :=
  match o with
  | .rxArrive b =>
    match i with
    | 0 => some (.rxArrive b)
    | _ + 1 =>
      match n.line with
      | [] => none
      | b' :: _ => some (.rxArrive b')
  | .poll p0 p1 =>
    let p := pinsAt c i p0 p1
    some (.poll p.1 p.2)
  | o => some o

/-- The place after node `n` took `o` and went to `t`: a delivered byte leaves the wire, a poll drives the mode-out pins,
a reset leaves them undriven (R126, R127). -/
def placeAfter (i : Nat) (n : ChainNode) (o : Op) (t : State) : ChainNode :=
  match o with
  | .rxArrive _ => { n with node := t, line := if i = 0 then n.line else n.line.tail }
  | .poll _ _ => { n with node := t, polled := n.polled || decide (t.report = .taken) }
  | .reset _ => { n with node := t, polled := false }
  | _ => { n with node := t }

/-- Bytes go onto the wire towards place `j`; past the last node they leave the chain (R126). -/
def deliver (c : Chain) (j : Nat) (bs : List Byte) : Chain := c.modify j (fun m => { m with line := m.line ++ bs })

/-- A step of node `i`, asked for operation `o` (R125 to R127). A place outside the chain, or a delivery from an empty
wire, is no step. -/
def chainStep (c : Chain) (i : Nat) (o : Op) : Host.Outcome Chain Fault Refusal :=
  match getElem? c i with
  | none => .next c
  | some n =>
    match chainOp c i n o with
    | none => .next c
    | some o' =>
      match runRequest (.op o') n.node with
      | .next t => .next (deliver (c.set i (placeAfter i n o' t)) (i + 1) (transmitted n.node t))
      | .fault f => .fault f
      | .refused r => .refused r

/-- The chain after nodes `i`, `i+1`, … polled once in turn, each asked with the levels of the list: the ripple of the
mode (R127). -/
def pollRipple : List (Bool × Bool) → Nat → Chain → Host.Outcome Chain Fault Refusal
  | [], _, c => .next c
  | p :: ps, i, c =>
    match chainStep c i (.poll p.1 p.2) with
    | .next c' => pollRipple ps (i + 1) c'
    | .fault f => .fault f
    | .refused r => .refused r

end Sys2Proof.Machine
end

