-- ==== Sys2Proof/Safety.lean ====
section
/-! DEFINITION. What claims about runs are stated in: the invariants of the node (10_state.md R33, R34, 41_servo_mapper.md
R78, 60_exceptions.md R128), legal events (30_encoding.md R48), schedules, and fairness (40_step_model.md R73). -/

namespace Sys2Proof.Machine

/-! ## Invariants -/

/-- The counter is below the period, so its increment never overflows (R34). -/
abbrev State.counterBelowPeriod (s : State) : Prop := s.linkCnt.toNat < s.params.linkPeriod

/-- A byte waits for the transmitter only in the middle of a transfer (R33). -/
abbrev State.waitsMidTransfer (s : State) : Prop := s.fwdWait.isSome = true → s.isFirst = false

/-- Before the strip is first driven after a reset the node awaits a first byte (R35, R74). -/
abbrev State.awaitsBeforeStrip (s : State) : Prop := s.stripColor = none → s.isFirst = true

/-- From the first accept after a reset on, the servo position is determined by the stored byte (R17, R78). -/
abbrev State.servoFollowsStored (s : State) : Prop := s.stripColor ≠ none → s.servoCmp = mapServo s.storedByte

/-- The strip shows nothing yet, the pass-through colour, or the colour of the last accepted byte (R25, R128). -/
abbrev State.stripTellsDecision (s : State) : Prop :=
  s.stripColor = none ∨ s.stripColor = some .cyan ∨ s.stripColor = some (colorOf s.storedByte)

/-- A halted node stays as the failed RESET left it (R131). -/
abbrev State.haltedAsBooted (s : State) : Prop :=
  s.phase = .halted → s.isFirst = true ∧ s.rxPending = false ∧ s.fwdWait = none ∧ s.linkCnt = 0 ∧ s.idleLatch = false ∧
    s.stripColor = none

/-- The invariant of the node. -/
abbrev State.Inv (s : State) : Prop :=
  s.params.wf ∧ s.counterBelowPeriod ∧ s.waitsMidTransfer ∧ s.awaitsBeforeStrip ∧ s.servoFollowsStored ∧
    s.stripTellsDecision ∧ s.haltedAsBooted

/-- A servo write of the block is `4000 + 15*b` for a byte b; every other event is legal at every value (R48, R52). -/
def legalEvent : Event → Bool
  | .servoWrite v => decide (4000 ≤ v.toNat) && decide (v.toNat ≤ 7825) && decide (v.toNat % 15 = 10)
  | .strip _ => true
  | .tx _ => true
  | .modeOut _ => true
  | .status _ => true

/-- Every event of the history is legal (R48). -/
abbrev State.histLegal (s : State) : Prop := s.hist.all legalEvent = true

/-- The data of the node that the spec names, apart from the history: two states agree on it (R14 to R27). -/
abbrev State.sameNode (s t : State) : Prop :=
  s.phase = t.phase ∧ s.isFirst = t.isFirst ∧ s.storedByte = t.storedByte ∧ s.rxBuf = t.rxBuf ∧
    s.rxPending = t.rxPending ∧ s.fwdWait = t.fwdWait ∧ s.linkCnt = t.linkCnt ∧ s.idleLatch = t.idleLatch ∧
    s.servoCmp = t.servoCmp ∧ s.stripColor = t.stripColor ∧ s.statusLed = t.statusLed ∧ s.modeOut = t.modeOut ∧
    s.params = t.params

/-! ## Schedules -/

/-- The step of one operation (40_step_model.md R63): its word is the one the state gives it (R54). -/
def stepOp (o : Op) (s : State) : Host.Outcome State Fault Refusal := runRequest (.op o) s

/-- The steps of a list of operations, in order, up to the first that gives no next state. -/
def stepOps : List Op → State → Host.Outcome State Fault Refusal
  | [], s => .next s
  | o :: os, s =>
    match stepOp o s with
    | .next t => stepOps os t
    | .fault f => .fault f
    | .refused r => .refused r

/-- The state after an operation; a fault leaves the state (R131: a halted node takes no step). -/
def afterOp (o : Op) (s : State) : State :=
  match stepOp o s with
  | .next t => t
  | .fault _ => s
  | .refused _ => s

/-- The n-th state of the run a schedule gives from `s` (R70: any schedule is one). -/
def trace (σ : Nat → Op) (s : State) : Nat → State
  | 0 => s
  | n + 1 => afterOp (σ n) (trace σ s n)

/-- R73 (a) and (c): an operation that stays enabled is eventually taken. -/
def WeaklyFair (o : Op) (σ : Nat → Op) (s : State) : Prop :=
  ∀ n, (∀ m, n ≤ m → Enabled o (trace σ s m) = true) → ∃ m, n ≤ m ∧ σ m = o

/-- R73 (b): if POLL stays enabled it is eventually taken, with some pair of pin levels. -/
def PollFair (σ : Nat → Op) (s : State) : Prop :=
  ∀ n, (∀ m, n ≤ m → Enabled (.poll false false) (trace σ s m) = true) → ∃ m p0 p1, n ≤ m ∧ σ m = .poll p0 p1

/-- A fair run (R73): RX_SERVICE, POLL and TX_ISSUE; the receive line and the clock are under no fairness. That the
transmitter becomes ready is the spec's assumption (D15, log entry 14), unsafe for a transmitter that never does. -/
def FairRun (σ : Nat → Op) (s : State) : Prop :=
  WeaklyFair .rxService σ s ∧ PollFair σ s ∧ WeaklyFair .txIssue σ s

end Sys2Proof.Machine
end

