-- ==== Sys2Proof/Certificates/Slice0/Obligations.lean ====
section
/-! DEFINITION. The statements about the node, from the spec's numbered rules. A rule the spec marks as its own decision
(D<n> of 92_eei_decisions.md) or as derived is named in the docstring; such a statement has basis 'derived'. "No step" is
read off the model's own report (log entry 1). -/

open Sys2Proof Sys2Proof.Machine

/-! ## Encodings -/

/-- The decoder reads back every well-formed instruction from its code, whatever the don't-care bits and whatever bytes
follow (30_encoding.md R51, R53, R57 to R59; the STEP8 words are the spec's decision D22). -/
def Obligations.DecodeEncodeAgree : Prop :=
  ∀ (dc : Byte) (i : Instr) (rest : List Byte), i.wellFormed = true →
    decode { encodeWith dc i with bytes := (encodeWith dc i).bytes ++ rest } = .ok i rest

/-- Every instruction the decoder gives is well-formed, and its code, with the word's own don't-care bits, is the bytes
read and no others (the other direction of the round trip; the STEP8 words are decision D22). -/
def Obligations.DecodedCodeIsTheBytesRead : Prop :=
  ∀ (f : Fetched) (i : Instr) (rest : List Byte), decode f = .ok i rest →
    i.wellFormed = true ∧ ∃ w tail, f.bytes = w :: tail ∧ f.bytes = (encodeWith w i).bytes ++ rest ∧
      f.format = (encodeWith w i).format

/-- A word selects a row of the selector table exactly when its masked bits are the row's, so at most one row matches, and
a word has a row exactly when K is at most 101 (30_encoding.md R57, R58; decision D22). -/
def Obligations.SelectorTableIsExact : Prop :=
  (∀ (w : Byte) (r : Selector), decodeSelector w = some r ↔ w &&& r.mask = r.pattern) ∧
  (∀ w : Byte, (decodeSelector w).isSome = true ↔ w.toNat / 32 ≤ 5)

/-- Words of kind 110 and 111 name no operation: the decoder rejects all of them, and a step asked for one is refused
with the refusal of code 1, the only refusal that has a code (30_encoding.md R57, 60_exceptions.md R114, 93 X1; decisions
D18 and D30). -/
def Obligations.ReservedWordsAreRefused : Prop :=
  (∀ (w : Byte) (ok : Bool) (rest : List Byte), 6 ≤ w.toNat / 32 →
    decode { format := .step8, calibOk := ok, bytes := w :: rest } = .reject .reservedSelector) ∧
  (∀ (k0 : Bool) (s : State), runRequest (.reserved k0) s = .refused .reservedSelector) ∧
  (∀ r : Refusal, refusalCode r = some 1 ↔ r = .reservedSelector) ∧ (∀ (r : Refusal) (n : Nat), refusalCode r = some n → n = 1)

/-- The mode code table (30_encoding.md R51): each code of two pins decodes to its row, and its mode has that code; there
is no reserved code. -/
def Obligations.ModeCodeTable : Prop :=
  (∀ ok, decode { format := .mode2, calibOk := ok, bytes := [0b00] } = .ok .decodeRelayIdle []) ∧
  (∀ ok, decode { format := .mode2, calibOk := ok, bytes := [0b01] } = .ok .decodeForwardA []) ∧
  (∀ ok, decode { format := .mode2, calibOk := ok, bytes := [0b10] } = .ok .decodeForwardB []) ∧
  (∀ ok, decode { format := .mode2, calibOk := ok, bytes := [0b11] } = .ok .decodeForwardBoth []) ∧
  decodeMode false false = .relayIdle ∧ decodeMode false true = .forwardA ∧
  decodeMode true false = .forwardB ∧ decodeMode true true = .forwardBoth ∧
  (∀ p0 p1, modeCode (decodeMode p0 p1) = pins p0 p1) ∧
  (∀ p0 p1, (pins p0 p1).getLsbD 1 = p0 ∧ (pins p0 p1).getLsbD 0 = p1)

/-- The sentinel decode of an accepted byte (30_encoding.md R53): the four sentinel rows match one byte each, and every
other byte is the default row's, which is tried last; a forwarded byte is cyan whatever its value. -/
def Obligations.SentinelDecode : Prop :=
  (∀ ok rest, decode { format := .byte8, calibOk := ok, bytes := 0x01 :: rest } = .ok .acceptColorBlue rest) ∧
  (∀ ok rest, decode { format := .byte8, calibOk := ok, bytes := 0x02 :: rest } = .ok .acceptColorRed rest) ∧
  (∀ ok rest, decode { format := .byte8, calibOk := ok, bytes := 0x03 :: rest } = .ok .acceptColorGreen rest) ∧
  (∀ ok rest, decode { format := .byte8, calibOk := ok, bytes := 0xFF :: rest } = .ok .acceptColorWhite rest) ∧
  (∀ ok rest (b : Byte), b ≠ 0x01 → b ≠ 0x02 → b ≠ 0x03 → b ≠ 0xFF →
    decode { format := .byte8, calibOk := ok, bytes := b :: rest } = .ok (.acceptColorAmber b) rest) ∧
  (∀ (b : Byte) (s : State), s.phase = .run → s.fwdWait = some b →
    ∃ t, exec .txIssue s = .next t ∧ t.stripColor = some .cyan)

/-- Words written out from the spec's encodings decode to the rows they stand for: one or more of every family
(30_encoding.md R51, R53, R58; 95_test_vectors.md 2.7). -/
def Obligations.WordsDecodeAsTheSpecSays : Prop :=
  decode { format := .step8, calibOk := true, bytes := [0b00011111] } = .ok (.reset true) [] ∧
  decode { format := .step8, calibOk := false, bytes := [0b00000000] } = .ok (.reset false) [] ∧
  decode { format := .step8, calibOk := true, bytes := [0b00110000, 0x42] } = .ok (.rxArrive 0x42) [] ∧
  decode { format := .step8, calibOk := true, bytes := [0b01010111] } = .ok .tickCount [] ∧
  decode { format := .step8, calibOk := true, bytes := [0b01001100] } = .ok .tickWrap [] ∧
  decode { format := .step8, calibOk := true, bytes := [0b01101000] } = .ok .rxForward [] ∧
  decode { format := .step8, calibOk := true, bytes := [0b01110000] } = .ok .rxAccept [] ∧
  decode { format := .step8, calibOk := true, bytes := [0b10001100] } = .ok .txIssue [] ∧
  decode { format := .step8, calibOk := true, bytes := [0b10111000] } = .ok .pollIdleMiss [] ∧
  decode { format := .step8, calibOk := true, bytes := [0b10100100] } = .ok .pollIdleHit [] ∧
  decode { format := .step8, calibOk := true, bytes := [0b10100101] } = .ok .pollFwdA [] ∧
  decode { format := .step8, calibOk := true, bytes := [0b10100110] } = .ok .pollFwdB [] ∧
  decode { format := .step8, calibOk := true, bytes := [0b10110011] } = .ok .pollFwdBoth [] ∧
  decode { format := .mode2, calibOk := true, bytes := [0b10] } = .ok .decodeForwardB [] ∧
  decode { format := .byte8, calibOk := true, bytes := [0b00000011] } = .ok .acceptColorGreen [] ∧
  decode { format := .byte8, calibOk := true, bytes := [0b11111110] } = .ok (.acceptColorAmber 0xFE) [] ∧
  decode { format := .map, calibOk := true, bytes := [0b10000000] } = .ok (.mapServo 0x80) []

/-- The selector word of a step: K in bits 7 to 5, F in bit 4, W in bit 3, L in bit 2, M in bits 1 and 0, each computed
from the state before the step (30_encoding.md R54; decision D22). -/
def Obligations.SelectorWordFields : Prop :=
  ∀ (k : BitVec 3) (m : Pins) (s : State),
    (selectorWord k m s).toNat =
      k.toNat * 32 + (if s.isFirst = true then 16 else 0) +
        (if s.linkCnt.toNat + 1 = s.params.linkPeriod then 8 else 0) + (if s.idleLatch = true then 4 else 0) + m.toNat

/-- The word of an operation decodes to the row the branch bits select: W within TICK, F within RX_SERVICE, the pins and,
in mode 00, L within POLL (30_encoding.md R54 to R56; decision D22). -/
def Obligations.OperationSelectsItsRow : Prop :=
  ∀ s : State,
    (∀ ok, decode (fetch (.op (.reset ok)) s) = .ok (.reset ok) []) ∧
    (∀ b, decode (fetch (.op (.rxArrive b)) s) = .ok (.rxArrive b) []) ∧
    decode (fetch (.op .tick) s) =
      .ok (if s.linkCnt.toNat + 1 = s.params.linkPeriod then .tickWrap else .tickCount) [] ∧
    decode (fetch (.op .rxService) s) = .ok (if s.isFirst = true then .rxAccept else .rxForward) [] ∧
    decode (fetch (.op .txIssue) s) = .ok .txIssue [] ∧
    decode (fetch (.op (.poll false false)) s) = .ok (if s.idleLatch = true then .pollIdleHit else .pollIdleMiss) [] ∧
    decode (fetch (.op (.poll false true)) s) = .ok .pollFwdA [] ∧
    decode (fetch (.op (.poll true false)) s) = .ok .pollFwdB [] ∧
    decode (fetch (.op (.poll true true)) s) = .ok .pollFwdBoth []

/-! ## The step -/

/-- A step takes the next request off the agenda (a free choice if none is listed), computes its word, and, when that
decodes to an instruction, is exec of it; taking a request changes nothing of the node. The agenda is the model's own
(log entry 3). -/
def Obligations.StepRunsTheDecodedInstruction : Prop :=
  (∀ (s : State) (i : Instr) (rest : List Byte),
    decode (fetch (nextRequest s) (takeRequest s)) = .ok i rest → step s = exec i (takeRequest s)) ∧
  (∀ (s : State) (why : Reject),
    decode (fetch (nextRequest s) (takeRequest s)) = .reject why → step s = .refused (refusalOf why)) ∧
  (∀ (s : State) (r : Request) (rs : List Request), s.agenda = r :: rs →
    nextRequest s = r ∧ takeRequest s = { s with agenda := rs }) ∧
  (∀ s : State, s.agenda = [] →
    nextRequest s = .op (Config.freeOp s.choices) ∧ takeRequest s = { s with choices := s.choices + 1 })

/-- A table word placed with withFetchWord is the instruction the next step runs, in the state prepared for it (the
model's convention, log entries 10 and 11; with LINK_PERIOD 1 no TICK is a TICK_COUNT, R79, so the period is at least 2). -/
def Obligations.PlacedWordRunsNext : Prop :=
  ∀ (s : State) (nbits w : Nat) (i : Instr), 2 ≤ s.params.linkPeriod → s.params.linkPeriod ≤ 65536 →
    decodeTableWord nbits w = some i → step (s.withFetchWord nbits w) = exec i (prepare nbits w s)

/-- An operation is taken exactly when it is enabled: in RUN a disabled one is no step and changes nothing of the node; in
HALTED everything but RESET is the fault (40_step_model.md R64 to R69, 60_exceptions.md R114; decisions D17, D18, D26). That no
step is a next state, and where the fault is raised, are the model's choices (log entries 1 and 2). -/
def Obligations.EnabledOperationsAreTaken : Prop :=
  ∀ (o : Op) (s : State),
    (Enabled o s = true → ∃ t, stepOp o s = .next t ∧ t.report = .taken) ∧
    (Enabled o s = false → s.phase = .run → stepOp o s = .next { s with report := .noStep }) ∧
    (Enabled o s = false → s.phase = .halted → stepOp o s = .fault .clockCalibrationMissing)

/-- RX_SERVICE is enabled exactly when RUN, a byte is pending and no byte waits for the transmitter, and where enabled it
takes the pending request; while a byte waits the request is deferred, not dropped: no operation but RESET clears it
(40_step_model.md R66). -/
def Obligations.RxServiceEnabledExactly : Prop :=
  (∀ s : State, Enabled .rxService s = true ↔ (s.phase = .run ∧ s.rxPending = true ∧ s.fwdWait = none)) ∧
  (∀ s : State, Enabled .rxService s = true → ∃ t, stepOp .rxService s = .next t ∧ t.rxPending = false) ∧
  (∀ (o : Op) (s t : State), s.rxPending = true → s.fwdWait ≠ none → (∀ ok, o ≠ .reset ok) → stepOp o s = .next t →
    t.rxPending = true)

/-- In RUN no instruction traps: exec always answers a next state; it never refuses, and it faults only in HALTED, with
ClockCalibrationMissing (code 1) and never for RESET (60_exceptions.md R112, R114, R121, 44_relay_arbiter.md R111). That a
disabled row in RUN answers a next state is the model's choice (log entry 1), and so is that a RESET with CALIB_OK false is a
next state, not the fault itself (log entry 2; 70_reset_and_hazards.md section 1). -/
def Obligations.NoInstructionTrapsInRun : Prop :=
  (∀ (i : Instr) (s : State), s.phase = .run → ∃ t, exec i s = .next t) ∧
  (∀ (i : Instr) (s : State) (r : Refusal), exec i s ≠ .refused r) ∧
  (∀ (i : Instr) (s : State) (f : Fault), exec i s = .fault f →
    s.phase = .halted ∧ f = .clockCalibrationMissing ∧ faultCode f = 1 ∧ ∀ ok, i ≠ .reset ok)

/-- A step refuses only a reserved word, and never for want of bytes (60_exceptions.md R114, R121; decision D30). -/
def Obligations.StepRefusesOnlyReservedWords : Prop :=
  ∀ (s : State) (r : Refusal), step s = .refused r ↔ r = .reservedSelector ∧ ∃ k0, nextRequest s = .reserved k0

/-- A node with phase RUN is never stuck: with a byte waiting TX_ISSUE has a step and POLL has none, without one POLL has
a step at every pair of levels and TX_ISSUE has none (40_step_model.md R71, R75; decisions D1, D12). -/
def Obligations.RunningNodeAlwaysHasAStep : Prop :=
  ∀ s : State, s.phase = .run →
    (s.fwdWait ≠ none → Enabled .txIssue s = true ∧ ∀ p0 p1, Enabled (.poll p0 p1) s = false) ∧
    (s.fwdWait = none → Enabled .txIssue s = false ∧ ∀ p0 p1, Enabled (.poll p0 p1) s = true)

/-! ## Results of the instructions -/

/-- RESET (70_reset_and_hazards.md R130; decision D16): phase from CALIB_OK, the first-byte state, no pending byte, no
wait, counter and latch 0, strip NONE; history and configuration kept. The five unspecified fields are not constrained:
each has the free value the model's log entry 4 names. -/
def Obligations.ResetResult : Prop :=
  ∀ (ok : Bool) (s : State), ∃ t, exec (.reset ok) s = .next t ∧
    t.phase = (if ok = true then .run else .halted) ∧ t.isFirst = true ∧ t.rxPending = false ∧ t.fwdWait = none ∧
    t.linkCnt = 0 ∧ t.idleLatch = false ∧ t.stripColor = none ∧ t.hist = s.hist ∧ t.params = s.params ∧
    t.agenda = s.agenda ∧ t.choices = s.choices ∧ t.report = .taken

/-- A halted boot (70_reset_and_hazards.md R131; decision D18): after RESET with CALIB_OK false every operation but RESET
is the fault, and RESET with CALIB_OK true starts the node. -/
def Obligations.HaltedBootNeedsReset : Prop :=
  ∀ s : State, ∃ t, stepOp (.reset false) s = .next t ∧ t.phase = .halted ∧
    (∀ o, (∀ ok, o ≠ .reset ok) → stepOp o t = .fault .clockCalibrationMissing) ∧
    ∃ u, stepOp (.reset true) t = .next u ∧ u.phase = .run ∧ u.isFirst = true

/-- RX_ARRIVE(b): the byte is in the buffer and pending, whatever was there and whatever the sequencer does; an unserviced
byte is lost with no event and no other trace (44_relay_arbiter.md R93; decision D12). -/
def Obligations.RxArriveResult : Prop :=
  ∀ (b : Byte) (s : State), s.phase = .run →
    exec (.rxArrive b) s = .next { s with rxBuf := b, rxPending := true, report := .taken }

/-- TICK_COUNT: the counter goes up by one, exactly, and nothing else changes (42_link_timeout.md R79; decision D3). -/
def Obligations.TickCountResult : Prop :=
  ∀ s : State, s.phase = .run → s.linkCnt.toNat + 1 ≠ s.params.linkPeriod →
    exec .tickCount s = .next { s with linkCnt := s.linkCnt + 1, report := .taken } ∧
    (s.linkCnt.toNat < s.params.linkPeriod → s.params.linkPeriod ≤ 65536 →
      (s.linkCnt + 1).toNat = s.linkCnt.toNat + 1)

/-- TICK_WRAP: the counter restarts and the latch is set, whatever it was (42_link_timeout.md R80; decision D3). -/
def Obligations.TickWrapResult : Prop :=
  ∀ s : State, s.phase = .run → s.linkCnt.toNat + 1 = s.params.linkPeriod →
    exec .tickWrap s = .next { s with linkCnt := 0, idleLatch := true, report := .taken }

/-- RX_ACCEPT (44_relay_arbiter.md R95; decision D11): the byte is consumed, stored and mapped to the servo, its colour
shown, the transfer begun and the link reset; the servo event comes before the colour's. -/
def Obligations.RxAcceptResult : Prop :=
  ∀ s : State, s.phase = .run → s.rxPending = true → s.fwdWait = none → s.isFirst = true →
    exec .rxAccept s = .next { s with
      rxPending := false
      storedByte := s.rxBuf
      servoCmp := BitVec.ofNat 16 (15 * s.rxBuf.toNat + 4000)
      stripColor := some (colorOf s.rxBuf)
      isFirst := false
      linkCnt := 0
      idleLatch := if s.params.rxClearsLatch = true then false else s.idleLatch
      hist := s.hist ++ ([.servoWrite (BitVec.ofNat 16 (15 * s.rxBuf.toNat + 4000)), .strip (colorOf s.rxBuf)] : List Event)
      report := .taken }

/-- RX_FORWARD (44_relay_arbiter.md R102; decision D12): the byte, whatever its value, waits for the transmitter; the
servo, the stored byte, the strip and the history are as before. -/
def Obligations.RxForwardResult : Prop :=
  ∀ s : State, s.phase = .run → s.rxPending = true → s.fwdWait = none → s.isFirst = false →
    exec .rxForward s = .next { s with rxPending := false, fwdWait := some s.rxBuf, report := .taken }

/-- TX_ISSUE (44_relay_arbiter.md R103; decision D12): the waiting byte is transmitted unmodified, the strip is cyan
whatever its value, the link is reset and the wait ends. -/
def Obligations.TxIssueResult : Prop :=
  ∀ (b : Byte) (s : State), s.phase = .run → s.fwdWait = some b →
    exec .txIssue s = .next { s with
      fwdWait := none
      stripColor := some .cyan
      linkCnt := 0
      idleLatch := if s.params.rxClearsLatch = true then false else s.idleLatch
      hist := s.hist ++ ([.tx b, .strip .cyan] : List Event)
      report := .taken }

/-- The receive handler's decision (44_relay_arbiter.md R94): RX_SERVICE, enabled exactly as the rule says, takes the
buffered byte, clears the request, and accepts the byte when the node awaits a first byte and forwards it otherwise. -/
def Obligations.RxServiceDecides : Prop :=
  (∀ s : State, Enabled .rxService s = true ↔ (s.phase = .run ∧ s.rxPending = true ∧ s.fwdWait = none)) ∧
  ∀ s : State, s.phase = .run → s.rxPending = true → s.fwdWait = none →
    (s.isFirst = true → stepOp .rxService s = exec .rxAccept s ∧
      ∃ t, exec .rxAccept s = .next t ∧ t = (({ s with rxPending := false } : State).accept s.rxBuf).reporting .taken ∧
        t.rxPending = false) ∧
    (s.isFirst = false → stepOp .rxService s = exec .rxForward s ∧
      ∃ t, exec .rxForward s = .next t ∧
        t = (({ s with rxPending := false } : State).startForward s.rxBuf).reporting .taken ∧ t.rxPending = false)

/-- POLL_IDLE_HIT (44_relay_arbiter.md R105), the row a POLL 0 0 selects when the latch is set: the latch is consumed, the node awaits a first byte again, the status LED
toggles, and the events are the mode-out pins and the new level. -/
def Obligations.PollIdleHitResult : Prop :=
  ∀ s : State, s.phase = .run → s.fwdWait = none → s.idleLatch = true →
    stepOp (.poll false false) s = exec .pollIdleHit s ∧
    exec .pollIdleHit s = .next { s with
      modeOut := 0
      idleLatch := false
      isFirst := true
      statusLed := !s.statusLed
      hist := s.hist ++ ([.modeOut 0, .status (!s.statusLed)] : List Event)
      report := .taken }

/-- POLL_IDLE_MISS (44_relay_arbiter.md R106; decisions D6 and D8): the status LED goes to the fixed level, the flags stay. -/
def Obligations.PollIdleMissResult : Prop :=
  ∀ s : State, s.phase = .run → s.fwdWait = none → s.idleLatch = false →
    exec .pollIdleMiss s = .next { s with
      modeOut := 0
      statusLed := s.params.statusFixedLevel
      hist := s.hist ++ ([.modeOut 0, .status s.params.statusFixedLevel] : List Event)
      report := .taken }

/-- POLL_FWD_A, POLL_FWD_B, POLL_FWD_BOTH (44_relay_arbiter.md R107 to R109; decision D7): only the mode-out pins change;
no idle check, and the flags and the status LED stay, whatever the latch. -/
def Obligations.PollForwardResults : Prop :=
  ∀ s : State, s.phase = .run → s.fwdWait = none →
    exec .pollFwdA s = .next { s with modeOut := 0b01, hist := s.hist ++ ([.modeOut 0b01] : List Event), report := .taken } ∧
    exec .pollFwdB s = .next { s with modeOut := 0b10, hist := s.hist ++ ([.modeOut 0b10] : List Event), report := .taken } ∧
    exec .pollFwdBoth s = .next { s with modeOut := 0b11, hist := s.hist ++ ([.modeOut 0b11] : List Event), report := .taken }

/-- Every POLL mirrors the sampled pins onto the mode-propagation outputs and emits them first, in every mode
(43_mode_decoder.md R91, 44_relay_arbiter.md R104; decisions D10 and D13). -/
def Obligations.EveryPollMirrorsThePins : Prop :=
  ∀ (p0 p1 : Bool) (s : State), s.phase = .run → s.fwdWait = none →
    ∃ t es, stepOp (.poll p0 p1) s = .next t ∧ t.report = .taken ∧
      t.modeOut.getLsbD 1 = p0 ∧ t.modeOut.getLsbD 0 = p1 ∧ t.hist = s.hist ++ .modeOut t.modeOut :: es

/-- MAP_SERVO (41_servo_mapper.md R76): a total function of the byte, `b*15 + 4000` as an exact 16-bit value, which writes
no state and no flag. Corner cases and example as the rule gives them. That MAP_SERVO runs as a step of its own, in any
state, with its value in the report, is the model's choice (log entry 9). -/
def Obligations.MapServoResult : Prop :=
  ∀ (b : Byte) (s : State), ∃ v : Word,
    runRequest (.mapServo b) s = exec (.mapServo b) s ∧
    exec (.mapServo b) s = .next { s with report := .compare v } ∧ v = mapServo b ∧ v.toNat = b.toNat * 15 + 4000 ∧
    (b = 0 → v.toNat = 4000) ∧ (b = 255 → v.toNat = 7825) ∧ (b = 0x80 → v.toNat = 5920)

/-- Arithmetic laws of the mapper (41_servo_mapper.md R77, which the spec derives from R76): strictly increasing in steps
of 15, in range, recoverable, hence injective. -/
def Obligations.MapServoLaws : Prop :=
  (∀ b c : Byte, b.toNat < c.toNat → (mapServo b).toNat < (mapServo c).toNat) ∧
  (∀ b c : Byte, c.toNat = b.toNat + 1 → (mapServo c).toNat = (mapServo b).toNat + 15) ∧
  (∀ b : Byte, ((mapServo b).toNat - 4000) / 15 = b.toNat) ∧
  (∀ b : Byte, 4000 ≤ (mapServo b).toNat ∧ (mapServo b).toNat ≤ 7825 ∧ (mapServo b).toNat % 15 = 10) ∧
  (∀ b c : Byte, mapServo b = mapServo c → b = c)

/-- The mode decoder's rows (43_mode_decoder.md R86 to R89, and the fourth code of R86's case table): each returns its
mode and writes no state; the poll of a node with both pins low reads the idle latch. That a row runs as a step of its own,
in any state, with its mode in the report, is the model's choice (log entry 9). -/
def Obligations.ModeDecoderRows : Prop :=
  ∀ s : State,
    exec .decodeRelayIdle s = .next { s with report := .mode .relayIdle } ∧
    exec .decodeForwardA s = .next { s with report := .mode .forwardA } ∧
    exec .decodeForwardB s = .next { s with report := .mode .forwardB } ∧
    exec .decodeForwardBoth s = .next { s with report := .mode .forwardBoth } ∧
    runRequest (.decodeMode false false) s = exec .decodeRelayIdle s ∧
    runRequest (.decodeMode false true) s = exec .decodeForwardA s ∧
    runRequest (.decodeMode true false) s = exec .decodeForwardB s ∧
    runRequest (.decodeMode true true) s = exec .decodeForwardBoth s ∧
    decode (fetch (.op (.poll false false)) s) = .ok (if s.idleLatch = true then .pollIdleHit else .pollIdleMiss) []

/-- The colour rows (44_relay_arbiter.md R96 to R101): each returns its colour and writes no state; only its byte selects
each sentinel colour and every other byte is amber; what accepting shows is `COLOR_RGB` of it; the six colour codes are those
of 30_encoding.md R52 (decision D22). That a row runs as a step of its own, in any state, with its colour in the report, is
the model's choice (log entry 9). -/
def Obligations.ColorRows : Prop :=
  (∀ s : State,
    exec .acceptColorBlue s = .next { s with report := .color .blue } ∧
    exec .acceptColorRed s = .next { s with report := .color .red } ∧
    exec .acceptColorGreen s = .next { s with report := .color .green } ∧
    exec .acceptColorWhite s = .next { s with report := .color .white } ∧
    (∀ b : Byte, Instr.wellFormed (.acceptColorAmber b) = true →
      exec (.acceptColorAmber b) s = .next { s with report := .color .amber })) ∧
  (∀ b : Byte,
    (colorOf b = .blue ↔ b = 0x01) ∧ (colorOf b = .red ↔ b = 0x02) ∧ (colorOf b = .green ↔ b = 0x03) ∧
    (colorOf b = .white ↔ b = 0xFF) ∧ (colorOf b = .amber ↔ b ≠ 0x01 ∧ b ≠ 0x02 ∧ b ≠ 0x03 ∧ b ≠ 0xFF) ∧
    colorOf b ≠ .cyan) ∧
  (colorCode .amber = 0 ∧ colorCode .blue = 1 ∧ colorCode .red = 2 ∧ colorCode .green = 3 ∧ colorCode .white = 4 ∧
    colorCode .cyan = 5) ∧
  (∀ (s : State) (b : Byte), (s.accept b).displayed = some (Config.colorRgb (colorOf b))) ∧
  (∀ s : State,
    (s.accept 0x01).hist = s.hist ++ ([.servoWrite 4015, .strip .blue] : List Event) ∧
    (s.accept 0x02).hist = s.hist ++ ([.servoWrite 4030, .strip .red] : List Event) ∧
    (s.accept 0x03).hist = s.hist ++ ([.servoWrite 4045, .strip .green] : List Event) ∧
    (s.accept 0xFF).hist = s.hist ++ ([.servoWrite 7825, .strip .white] : List Event) ∧
    (s.accept 0x00).hist = s.hist ++ ([.servoWrite 4000, .strip .amber] : List Event) ∧
    (s.accept 0x04).hist = s.hist ++ ([.servoWrite 4060, .strip .amber] : List Event))

/-! ## The Link Timeout Monitor -/

/-- `checkIdle()` (42_link_timeout.md R82): it returns the latch and consumes it, so a second call returns 0 and a call on
a clear latch changes nothing; a clear latch stays clear until a tick that completes a period; in mode RELAY_IDLE alone
does a poll call it, so after a POLL 0 0 the next one is a miss, and a poll in another mode leaves the latch. That the tick
which completes a period is the one at `link_cnt + 1 = LINK_PERIOD` is the spec's own decision D3 (log entry 17), not R82. -/
def Obligations.CheckIdleIsConsumeOnce : Prop :=
  (∀ s : State, s.checkIdle = (s.idleLatch, { s with idleLatch := false })) ∧
  (∀ s : State, (s.checkIdle).2.checkIdle.1 = false) ∧
  (∀ s : State, s.idleLatch = false → s.checkIdle = (false, s)) ∧
  (∀ (o : Op) (s t : State), s.idleLatch = false → ¬(o = .tick ∧ s.linkCnt.toNat + 1 = s.params.linkPeriod) →
    stepOp o s = .next t → t.idleLatch = false) ∧
  (∀ (s t : State), s.phase = .run → s.fwdWait = none → stepOp (.poll false false) s = .next t →
    t.idleLatch = false ∧ stepOp (.poll false false) t = exec .pollIdleMiss t ∧
    ∃ u, exec .pollIdleMiss t = .next u ∧ u.report = .taken ∧ u.isFirst = t.isFirst) ∧
  (∀ (s t : State) (p0 p1 : Bool), (p0 || p1) = true → stepOp (.poll p0 p1) s = .next t → t.idleLatch = s.idleLatch)

/-- `linkReset` (42_link_timeout.md R81; decision D4, RX_CLEARS_LATCH open): the counter to 0, the latch to 0 only under
the parameter, nothing else, and twice is once. -/
def Obligations.LinkResetIsIdempotent : Prop :=
  ∀ s : State,
    s.linkReset = { s with linkCnt := 0, idleLatch := if s.params.rxClearsLatch = true then false else s.idleLatch } ∧
    s.linkReset.linkReset = s.linkReset ∧
    (s.idleLatch = false → s.linkReset.idleLatch = false ∧ s.linkReset.linkReset.idleLatch = false) ∧
    (s.params.rxClearsLatch = true → s.linkReset.idleLatch = false)

/-- Idle detection (42_link_timeout.md R85, which the spec derives from R79 to R81; decision D3): k ticks with no link
reset between take the counter k places round its period, and the latch is set exactly when they complete a period or it
was set before. Nothing else of the node changes. -/
def Obligations.TicksDetectIdle : Prop :=
  ∀ (k : Nat) (s : State), s.phase = .run → s.params.wf → s.counterBelowPeriod →
    ∃ t, stepOps (List.replicate k .tick) s = .next t ∧
      t.linkCnt.toNat = (s.linkCnt.toNat + k) % s.params.linkPeriod ∧
      t.idleLatch = (s.idleLatch || decide (s.params.linkPeriod ≤ s.linkCnt.toNat + k)) ∧
      { t with linkCnt := s.linkCnt, idleLatch := s.idleLatch, report := s.report } = s

/-- After a link reset the k-th of an unbroken row of ticks is a TICK_WRAP exactly when k is a multiple of the period
(42_link_timeout.md R85, derived by the spec; decision D3): here, the word of the tick that follows k others. -/
def Obligations.WrapOnMultiplesOfThePeriod : Prop :=
  ∀ (k : Nat) (s t : State), s.phase = .run → s.params.wf → s.linkCnt = 0 →
    stepOps (List.replicate k .tick) s = .next t →
    (decode (fetch (.op .tick) t) = .ok .tickWrap [] ↔ (k + 1) % s.params.linkPeriod = 0)

/-! ## Frames: which rows write which field -/

/-- The first-byte flag (10_state.md R16): it is true after initialisation, chooses between accept and forward in the
receive service, is cleared the instant a byte is accepted, and is set again only by the poll that detects an idle gap and
by RESET; no other instruction changes it. -/
def Obligations.FirstFlagWriters : Prop :=
  (∀ (i : Instr) (s t : State), exec i s = .next t →
    (s.isFirst = true → t.isFirst = false → i = .rxAccept) ∧
    (s.isFirst = false → t.isFirst = true → i = .pollIdleHit ∨ ∃ ok, i = .reset ok)) ∧
  (∀ s t : State, s.rxPending = true → s.fwdWait = none → s.isFirst = true → exec .rxAccept s = .next t → t.isFirst = false) ∧
  (∀ s t : State, s.fwdWait = none → s.idleLatch = true → exec .pollIdleHit s = .next t → t.isFirst = true) ∧
  (∀ (ok : Bool) (s t : State), exec (.reset ok) s = .next t → t.isFirst = true) ∧
  (∀ s : State, stepOp .rxService s = exec (if s.isFirst = true then .rxAccept else .rxForward) s) ∧
  State.reset.isFirst = true

/-- Frame of the receive side: `rx_buf` changes only by RX_ARRIVE (and a RESET's draw), `rx_pending` is set only by
RX_ARRIVE and cleared only by the receive service and RESET, `fwd_wait` is made valid only by RX_FORWARD and invalid only
by TX_ISSUE and RESET (10_state.md R18 to R20; decisions D12 and D16). -/
def Obligations.ReceiveSideWriters : Prop :=
  ∀ (i : Instr) (s t : State), exec i s = .next t →
    (t.rxBuf ≠ s.rxBuf → (∃ b, i = .rxArrive b ∧ t.rxBuf = b) ∨ ∃ ok, i = .reset ok) ∧
    (s.rxPending = false → t.rxPending = true → ∃ b, i = .rxArrive b) ∧
    (s.rxPending = true → t.rxPending = false → i = .rxAccept ∨ i = .rxForward ∨ ∃ ok, i = .reset ok) ∧
    (∀ b, t.fwdWait = some b → s.fwdWait ≠ some b → i = .rxForward ∧ b = s.rxBuf ∧ s.fwdWait = none) ∧
    (s.fwdWait ≠ none → t.fwdWait = none → i = .txIssue ∨ ∃ ok, i = .reset ok)

/-- Frame of the monitor: the latch is set only by TICK_WRAP, and cleared only by POLL_IDLE_HIT, RESET, and the two link
resets under RX_CLEARS_LATCH; the counter is never written with anything but the count or 0, and changes only by TICK,
the two link resets and RESET (42_link_timeout.md R83, R84, derived by the spec; decisions D3, D4). -/
def Obligations.MonitorWriters : Prop :=
  ∀ (i : Instr) (s t : State), exec i s = .next t →
    (s.idleLatch = false → t.idleLatch = true → i = .tickWrap) ∧
    (s.idleLatch = true → t.idleLatch = false →
      i = .pollIdleHit ∨ (∃ ok, i = .reset ok) ∨ (s.params.rxClearsLatch = true ∧ (i = .rxAccept ∨ i = .txIssue))) ∧
    (t.linkCnt = s.linkCnt ∨ t.linkCnt = 0 ∨ (t.linkCnt = s.linkCnt + 1 ∧ i = .tickCount)) ∧
    (t.linkCnt ≠ s.linkCnt → i = .tickCount ∨ i = .tickWrap ∨ i = .rxAccept ∨ i = .txIssue ∨ ∃ ok, i = .reset ok)

/-- Frame of the outputs: the stored byte and the servo change only by RX_ACCEPT, the strip only by RX_ACCEPT and
TX_ISSUE, the status LED only by a poll in mode RELAY_IDLE, the mode-out pins only by a poll; RESET besides (10_state.md
R17, R24 to R27; decisions D7, D10, D11, D16, D27). -/
def Obligations.OutputWriters : Prop :=
  ∀ (i : Instr) (s t : State), exec i s = .next t → (∀ ok, i ≠ .reset ok) →
    (i ≠ .rxAccept → t.storedByte = s.storedByte ∧ t.servoCmp = s.servoCmp) ∧
    (i ≠ .rxAccept → i ≠ .txIssue → t.stripColor = s.stripColor) ∧
    (i ≠ .pollIdleHit → i ≠ .pollIdleMiss → t.statusLed = s.statusLed) ∧
    (i ≠ .pollIdleHit → i ≠ .pollIdleMiss → i ≠ .pollFwdA → i ≠ .pollFwdB → i ≠ .pollFwdBoth → t.modeOut = s.modeOut) ∧
    t.phase = s.phase ∧ t.draws = s.draws

/-- No instruction and no step writes the configuration (00_scope.md R9, 10_state.md R14, R23; decisions D1 and D25), and
no instruction changes the agenda, the count of free choices or the draw seed, nor does a step the last (the model's own
fields, log entries 3 and 24). -/
def Obligations.ConfigurationNeverChanges : Prop :=
  (∀ (i : Instr) (s t : State), exec i s = .next t →
    t.params = s.params ∧ t.agenda = s.agenda ∧ t.choices = s.choices ∧ t.drawSeed = s.drawSeed) ∧
  (∀ s t : State, step s = .next t → t.params = s.params ∧ t.drawSeed = s.drawSeed)

/-- The history only grows at its end (10_state.md R28, 00_scope.md R13; decision D1): RESET, RX_ARRIVE, the ticks,
RX_FORWARD and the pure rows add nothing to it; the rows that emit add two events at most. -/
def Obligations.HistoryOnlyGrows : Prop :=
  (∀ (i : Instr) (s t : State), exec i s = .next t →
    ∃ es, t.hist = s.hist ++ es ∧ es.length ≤ 2 ∧
      (es ≠ [] → i = .rxAccept ∨ i = .txIssue ∨ i = .pollIdleHit ∨ i = .pollIdleMiss ∨ i = .pollFwdA ∨ i = .pollFwdB ∨
        i = .pollFwdBoth)) ∧
  (∀ s t : State, step s = .next t → ∃ es, t.hist = s.hist ++ es)

/-! ## Invariants -/

/-- The invariant of the node (Safety.lean): the configuration legal, the counter below the period, a wait only
mid-transfer, the servo determined by the stored byte, the strip telling the last decision, a halted node as booted.
Every step keeps it (10_state.md R33, R34, 41_servo_mapper.md R78, 60_exceptions.md R128, 70_reset_and_hazards.md R131). -/
def Obligations.StepKeepsInvariant : Prop := ∀ s t : State, s.Inv → step s = .next t → t.Inv

/-- The invariant holds at State.reset (whose open values are the model's choice, log entries 5 to 7), and every RESET
from a legal configuration establishes it. -/
def Obligations.ResetEstablishesInvariant : Prop :=
  State.reset.Inv ∧ ∀ (ok : Bool) (s t : State), s.params.wf → exec (.reset ok) s = .next t → t.Inv

/-- The block writes only servo values `4000 + 15*b` (30_encoding.md R48): every servo event a step adds is one, so a
history with legal events keeps legal; and the compare register itself is kept, or takes such a value, or is a RESET's
draw. -/
def Obligations.ServoWritesAreLegal : Prop :=
  ∀ s t : State, step s = .next t →
    (∃ es, t.hist = s.hist ++ es ∧ ∀ v, .servoWrite v ∈ es →
      (∃ b : Byte, v.toNat = 4000 + 15 * b.toNat) ∧ 4000 ≤ v.toNat ∧ v.toNat ≤ 7825 ∧ v.toNat % 15 = 10) ∧
    (s.histLegal → t.histLegal) ∧
    (t.servoCmp = s.servoCmp ∨ (∃ b : Byte, t.servoCmp.toNat = 4000 + 15 * b.toNat) ∨
      ∃ ok, nextRequest s = .op (.reset ok))

/-! ## The handler and the main loop -/

/-- While a byte waits for the transmitter the handler excludes the main loop and itself: POLL and RX_SERVICE have no
step, and RX_ARRIVE, TICK and TX_ISSUE have one; the interrupt enable is 0 exactly then (40_step_model.md R71,
60_exceptions.md R116; decisions D12 and D19). That a POLL or RX_SERVICE without a step answers a next state in which only the
report changes is the model's choice (log entry 1). -/
def Obligations.HandlerExcludesPollAndService : Prop :=
  ∀ s : State, s.phase = .run →
    (s.fwdWait ≠ none →
      (∀ p0 p1, stepOp (.poll p0 p1) s = .next { s with report := .noStep }) ∧
      stepOp .rxService s = .next { s with report := .noStep } ∧
      (∀ o, o = .tick ∨ o = .txIssue ∨ (∃ b, o = .rxArrive b) → ∃ t, stepOp o s = .next t ∧ t.report = .taken)) ∧
    (interruptEnable s = true ↔ s.fwdWait = none)

/-- Deferral: an arrival or a tick taken while the handler waits changes only the buffer, its flag, the counter and the
latch, and clears neither a set latch nor a set request; the unserviced byte of a set request is overwritten by an arrival
(40_step_model.md R72, derived by the spec). -/
def Obligations.DeferredRequestsAreKept : Prop :=
  ∀ (s t : State) (o : Op), s.phase = .run → s.fwdWait ≠ none → (o = .tick ∨ ∃ b, o = .rxArrive b) →
    stepOp o s = .next t →
    { t with rxBuf := s.rxBuf, rxPending := s.rxPending, linkCnt := s.linkCnt, idleLatch := s.idleLatch,
             report := s.report } = s ∧
    (s.idleLatch = true → t.idleLatch = true) ∧ (s.rxPending = true → t.rxPending = true)

/-- The transitions of the relay state and the wait (40_step_model.md R74, derived by the spec). -/
def Obligations.ControlFlowTable : Prop :=
  ∀ (o : Op) (s t : State), s.phase = .run → stepOp o s = .next t → t.report = .taken →
    (o = .rxService → s.isFirst = true → t.isFirst = false ∧ t.fwdWait = none) ∧
    (o = .rxService → s.isFirst = false → t.isFirst = false ∧ t.fwdWait = some s.rxBuf) ∧
    (o = .txIssue → s.fwdWait ≠ none ∧ t.isFirst = s.isFirst ∧ t.fwdWait = none) ∧
    (∀ p0 p1, o = .poll p0 p1 → s.fwdWait = none ∧ t.fwdWait = none ∧
      t.isFirst = (s.isFirst || (!p0 && !p1 && s.idleLatch))) ∧
    (o = .tick ∨ (∃ b, o = .rxArrive b) → t.isFirst = s.isFirst ∧ t.fwdWait = s.fwdWait) ∧
    (∀ ok, o = .reset ok → t.isFirst = true ∧ t.fwdWait = none ∧ t.phase = (if ok = true then .run else .halted))

/-- Between taking a byte for forwarding and transmitting it nothing but RESET changes the relay state or the byte
(44_relay_arbiter.md R110, derived by the spec); TX_ISSUE then appends Tx of the byte and Strip(CYAN), in the order of R103
(decision D12, log entry 20). -/
def Obligations.WaitingByteIsStable : Prop :=
  ∀ (o : Op) (b : Byte) (s t : State), s.fwdWait = some b → (∀ ok, o ≠ .reset ok) → stepOp o s = .next t →
    t.isFirst = s.isFirst ∧
    ((o ≠ .txIssue ∧ t.fwdWait = some b ∧ t.hist = s.hist) ∨
      (o = .txIssue ∧ t.fwdWait = none ∧ t.hist = s.hist ++ ([.tx b, .strip .cyan] : List Event)))

/-- A byte sent to a node in the middle of a transfer (SEND of 30_encoding.md R61) goes out unmodified with the cyan
indicator, and neither the servo nor the stored byte moves (44_relay_arbiter.md R102, R103, 95_test_vectors.md E4;
decision D12). -/
def Obligations.ForwardedByteIsUnmodified : Prop :=
  ∀ (b : Byte) (s : State), s.phase = .run → s.isFirst = false → s.fwdWait = none →
    ∃ t, stepOps [.rxArrive b, .rxService, .txIssue] s = .next t ∧ t.hist = s.hist ++ ([.tx b, .strip .cyan] : List Event) ∧
      t.storedByte = s.storedByte ∧ t.servoCmp = s.servoCmp ∧ t.isFirst = false ∧ t.fwdWait = none ∧ t.linkCnt = 0

/-- The pseudo-operations (30_encoding.md R61, decision D22; the period boundary is D3, log entry 17): IDLE completes the period with a TICK_WRAP as its last tick;
SEND accepts the byte in a first-byte state, and otherwise forwards it, to the end of the handler; while an older byte waits
its service is no RX_FORWARD, so SEND has no transmit: the older byte stays and the new one is pending. That the service
without a step answers a next state is the model's choice (log entry 1). -/
def Obligations.PseudoOperationsExpand : Prop :=
  (∀ s : State, s.phase = .run → s.params.wf → s.counterBelowPeriod →
    ∃ u t, stepOps (ticksOps (s.params.linkPeriod - s.linkCnt.toNat - 1)) s = .next u ∧
      decode (fetch (.op .tick) u) = .ok .tickWrap [] ∧ stepOp .tick u = .next t ∧ stepOps (idleOps s) s = .next t ∧
      t.linkCnt = 0 ∧ t.idleLatch = true) ∧
  (∀ (b : Byte) (s : State), s.phase = .run → s.fwdWait = none →
    ∃ t, stepOps (sendOps s b) s = .next t ∧ t.report = .taken ∧ t.fwdWait = none ∧ t.rxPending = false ∧
      t.isFirst = false ∧ t.linkCnt = 0 ∧
      (s.isFirst = true → t.hist = s.hist ++ ([.servoWrite (mapServo b), .strip (colorOf b)] : List Event)) ∧
      (s.isFirst = false → t.hist = s.hist ++ ([.tx b, .strip .cyan] : List Event))) ∧
  (∀ (b : Byte) (s : State), s.phase = .run → s.fwdWait ≠ none →
    sendOps s b = [.rxArrive b, .rxService] ∧
    ∃ t, stepOps (sendOps s b) s = .next t ∧ t.fwdWait = s.fwdWait ∧ t.rxBuf = b ∧ t.rxPending = true ∧ t.hist = s.hist)

/-- Single-byte buffering (70_reset_and_hazards.md R134): a byte that a second arrival overwrites before its service is
lost without trace. Whatever is taken between the two arrivals but the receive service, the run is the same for every value
of the first byte; with nothing between them it is the run in which only the second came. The two runs compared are given
the same draws at a RESET (log entry 24). -/
def Obligations.OverrunLosesTheFirstByte : Prop :=
  (∀ (b b' c : Byte) (s : State) (mid os : List Op), (∀ o ∈ mid, o ≠ .rxService) →
    stepOps (.rxArrive b :: (mid ++ .rxArrive c :: os)) s = stepOps (.rxArrive b' :: (mid ++ .rxArrive c :: os)) s) ∧
  (∀ (b c : Byte) (s : State) (os : List Op),
    stepOps (.rxArrive b :: .rxArrive c :: os) s = stepOps (.rxArrive c :: os) s)

/-- The receive handler reads neither the pins, nor the timer, nor the status LED: two nodes that agree on phase, relay
state, buffer, request and wait take the same decision and emit the same events (44_relay_arbiter.md R94, 90 C5 and C8). -/
def Obligations.ReceiveDecisionIgnoresModeAndTimer : Prop :=
  ∀ s s' t : State, s.phase = s'.phase → s.isFirst = s'.isFirst → s.rxBuf = s'.rxBuf → s.rxPending = s'.rxPending →
    s.fwdWait = s'.fwdWait → stepOp .rxService s = .next t →
    ∃ t' es, stepOp .rxService s' = .next t' ∧ t.hist = s.hist ++ es ∧ t'.hist = s'.hist ++ es ∧
      t.isFirst = t'.isFirst ∧ t.fwdWait = t'.fwdWait ∧ t.rxPending = t'.rxPending ∧ t.report = t'.report

/-- Outside mode RELAY_IDLE a node that is in the middle of a transfer stays in it: over any row of operations with no
POLL 0 0 and no RESET it accepts no byte, whatever the gaps (70_reset_and_hazards.md R139, derived by the spec). -/
def Obligations.NoRearmOutsideRelayIdle : Prop :=
  ∀ (os : List Op) (s t : State), s.isFirst = false → (∀ o ∈ os, o ≠ .poll false false ∧ ∀ ok, o ≠ .reset ok) →
    stepOps os s = .next t →
    t.isFirst = false ∧ t.storedByte = s.storedByte ∧ t.servoCmp = s.servoCmp ∧
      ∃ es, t.hist = s.hist ++ es ∧ ∀ v, .servoWrite v ∉ es

/-- The stale latch (70_reset_and_hazards.md R138, derived by the spec; decision D4): with RX_CLEARS_LATCH false, a latch
set before the first byte makes the next poll in mode 00 re-arm the node, and both bytes are accepted; with RX_CLEARS_LATCH
true the second is taken for forwarding. -/
def Obligations.StaleLatchAcceptsTwice : Prop :=
  ∀ (b1 b2 : Byte) (s : State), s.phase = .run → s.isFirst = true → s.idleLatch = true → s.fwdWait = none →
    ∃ t, stepOps [.rxArrive b1, .rxService, .poll false false, .rxArrive b2, .rxService] s = .next t ∧
      (s.params.rxClearsLatch = false →
        t.isFirst = false ∧ t.storedByte = b2 ∧
        t.hist = s.hist ++ ([.servoWrite (mapServo b1), .strip (colorOf b1), .modeOut 0, .status (!s.statusLed),
          .servoWrite (mapServo b2), .strip (colorOf b2)] : List Event)) ∧
      (s.params.rxClearsLatch = true → t.isFirst = false ∧ t.storedByte = b1 ∧ t.fwdWait = some b2)

/-- Under fairness a byte taken for forwarding is eventually transmitted, unless a RESET drops it (40_step_model.md R71,
R73, 70_reset_and_hazards.md R130). It rests on the spec's assumption that the transmitter becomes ready (decision D15,
log entry 14). -/
def Obligations.FairRunTransmitsWaitingByte : Prop :=
  ∀ (σ : Nat → Op) (s : State) (n : Nat) (b : Byte), FairRun σ s → (trace σ s n).phase = .run →
    (trace σ s n).fwdWait = some b →
    ∃ m, n ≤ m ∧ (trace σ s m).fwdWait = some b ∧
      ((σ m = .txIssue ∧ (trace σ s (m + 1)).hist = (trace σ s n).hist ++ ([.tx b, .strip .cyan] : List Event)) ∨
        ∃ ok, σ m = .reset ok)

/-! ## The chain -/

/-- Nodes of a chain share no state: a step of node i changes no other node's state, and no wire but its own and the next
one's (60_exceptions.md R125, R126; decision D23). -/
def Obligations.ChainStepIsLocal : Prop :=
  ∀ (c c' : Chain) (i : Nat) (o : Op), chainStep c i o = .next c' →
    c'.length = c.length ∧
    (∀ j, j ≠ i → (getElem? c' j).map ChainNode.node = (getElem? c j).map ChainNode.node) ∧
    (∀ j, j ≠ i → j ≠ i + 1 → getElem? c' j = getElem? c j)

/-- The wire to node i + 1 is first-in first-out, with no loss and no duplicate (60_exceptions.md R126; decision D23): a step
of node i only appends what it transmitted, which is the waiting byte for TX_ISSUE and nothing for any other operation; a node
past the head takes the oldest byte off its wire, and delivers that byte, exactly when an arrival is asked of it; every other
operation leaves the node's own wire as it was, an arrival at the head is the byte asked for, and an arrival asked of an empty
wire changes nothing (log entry 15). -/
def Obligations.ChainWireIsFifo : Prop :=
  ∀ (c c' : Chain) (i : Nat) (o : Op) (m : ChainNode), chainStep c i o = .next c' →
    (getElem? c (i + 1) = some m → ∃ n n' m', getElem? c i = some n ∧ getElem? c' i = some n' ∧
      getElem? c' (i + 1) = some m' ∧ m'.line = m.line ++ transmitted n.node n'.node) ∧
    (getElem? c i = some m → ∃ m', getElem? c' i = some m' ∧
      transmitted m.node m'.node = (if o = .txIssue then m.node.fwdWait.toList else []) ∧
      (∀ b rest, i ≠ 0 → (∃ b', o = .rxArrive b') → m.line = b :: rest →
        m'.line = rest ∧ m'.node.rxBuf = b ∧ m'.node.rxPending = true) ∧
      ((∀ b', o ≠ .rxArrive b') → m'.line = m.line) ∧
      (∀ b, i = 0 → o = .rxArrive b → m'.line = m.line ∧ m'.node.rxBuf = b ∧ m'.node.rxPending = true) ∧
      (i ≠ 0 → (∃ b', o = .rxArrive b') → m.line = [] → c' = c))

/-- The mode ripples down the chain: when every node runs with no byte waiting and polls once in turn, every node drives
the pair the head sampled, whatever levels the others were asked with (60_exceptions.md R127, 43_mode_decoder.md R91;
decisions D10 and D23). -/
def Obligations.ModeRipplesDownTheChain : Prop :=
  ∀ (c : Chain) (p0 p1 : Bool) (asked : List (Bool × Bool)),
    (∀ n ∈ c, n.node.phase = .run ∧ n.node.fwdWait = none) → c.length = asked.length + 1 →
    ∃ c', pollRipple ((p0, p1) :: asked) 0 c = .next c' ∧ c'.length = c.length ∧
      ∀ n ∈ c', n.node.modeOut = pins p0 p1 ∧ n.polled = true
end

