-- ==== Sys2Proof/Laws/Chain.lean ====
section
/-! SUPPORT. What a step of a chain can do, said once (60_exceptions.md R125 to R127). -/

namespace Sys2Proof.Machine

/-- The node of a place after an operation is the state its step gave. -/
@[simp] theorem placeAfter_node (i : Nat) (n : ChainNode) (o : Op) (t : State) : (placeAfter i n o t).node = t := by
  unfold placeAfter
  split <;> rfl

/-- A chain step that answers a next chain either found no node or no byte to deliver and changed nothing, or ran its
node's own step, put the node back in its place and what it transmitted on the next wire. -/
theorem chainStep_cases {c c' : Chain} {i : Nat} {o : Op} (h : chainStep c i o = .next c') :
    (c' = c ∧ ∀ n, getElem? c i = some n → chainOp c i n o = none) ∨
      ∃ n o' t, getElem? c i = some n ∧ chainOp c i n o = some o' ∧ runRequest (.op o') n.node = .next t ∧
        c' = deliver (c.set i (placeAfter i n o' t)) (i + 1) (transmitted n.node t) := by
  unfold chainStep at h
  split at h
  · rename_i none_there
    cases h
    exact .inl ⟨rfl, fun n hn => by rw [none_there] at hn; cases hn⟩
  · rename_i n there
    split at h
    · rename_i no_op
      cases h
      exact .inl ⟨rfl, fun m hm => by rw [there] at hm; cases hm; exact no_op⟩
    · rename_i o' op
      split at h
      · rename_i t ran
        cases h
        exact .inr ⟨n, o', t, there, op, ran, rfl⟩
      · cases h
      · cases h

end Sys2Proof.Machine
end

