-- ==== Sys2Proof/Laws/Operands.lean ====
section
/-! SUPPORT. Taking a request and the flags a word is computed from. -/

namespace Sys2Proof.Machine

/-- Taking a request changes the agenda or the count of free choices, and nothing else. -/
theorem takeRequest_eq (s : State) :
    takeRequest s = { s with agenda := (takeRequest s).agenda, choices := (takeRequest s).choices } := by
  cases s with | mk _ _ _ _ _ _ _ _ _ _ _ _ _ _ agenda => cases agenda <;> rfl

theorem takeRequest_cons {s : State} {r : Request} {rs : List Request} (h : s.agenda = r :: rs) :
    nextRequest s = r ∧ takeRequest s = { s with agenda := rs } := by
  simp [nextRequest, takeRequest, h]

theorem takeRequest_nil {s : State} (h : s.agenda = []) :
    nextRequest s = .op (Config.freeOp s.choices) ∧ takeRequest s = { s with choices := s.choices + 1 } := by
  simp [nextRequest, takeRequest, h]

theorem flagW_iff (s : State) : flagW s = true ↔ s.linkCnt.toNat + 1 = s.params.linkPeriod := by
  simp [flagW]

theorem rxServiceReady_iff (s : State) : rxServiceReady s = true ↔ s.rxPending = true ∧ s.fwdWait = none := by
  simp [rxServiceReady, Option.isNone_iff_eq_none]

theorem pollReady_iff (s : State) : pollReady s = true ↔ s.fwdWait = none := by
  simp [pollReady, Option.isNone_iff_eq_none]

theorem txIssueReady_iff (s : State) : txIssueReady s = true ↔ ∃ b, s.fwdWait = some b := by
  simp [txIssueReady, Option.isSome_iff_exists]

/-- When SEND ends with a transmit: in RUN, with a byte pending, none waiting, in the middle of a transfer (R61). -/
theorem servicesByForwarding_iff (s : State) :
    servicesByForwarding s = true ↔ s.phase = .run ∧ s.rxPending = true ∧ s.fwdWait = none ∧ s.isFirst = false := by
  simp [servicesByForwarding, Enabled, rxServiceReady_iff, flagF, and_assoc]

@[simp] theorem pins_zero : pins false false = 0 := by decide
@[simp] theorem pins_one : pins false true = 1 := by decide
@[simp] theorem pins_two : pins true false = 2 := by decide
@[simp] theorem pins_three : pins true true = 3 := by decide

end Sys2Proof.Machine
end

