-- ==== Sys2Proof/Laws/State.lean ====
section
/-! SUPPORT. What each named update does to each field of the state: one lemma per field, so that no proof unfolds a record
update. -/

namespace Sys2Proof.Machine

variable (s : State)

/-! ## emit -/

@[simp] theorem State.emit_phase (e : Event) : (s.emit e).phase = s.phase := rfl
@[simp] theorem State.emit_isFirst (e : Event) : (s.emit e).isFirst = s.isFirst := rfl
@[simp] theorem State.emit_storedByte (e : Event) : (s.emit e).storedByte = s.storedByte := rfl
@[simp] theorem State.emit_rxBuf (e : Event) : (s.emit e).rxBuf = s.rxBuf := rfl
@[simp] theorem State.emit_rxPending (e : Event) : (s.emit e).rxPending = s.rxPending := rfl
@[simp] theorem State.emit_fwdWait (e : Event) : (s.emit e).fwdWait = s.fwdWait := rfl
@[simp] theorem State.emit_linkCnt (e : Event) : (s.emit e).linkCnt = s.linkCnt := rfl
@[simp] theorem State.emit_idleLatch (e : Event) : (s.emit e).idleLatch = s.idleLatch := rfl
@[simp] theorem State.emit_servoCmp (e : Event) : (s.emit e).servoCmp = s.servoCmp := rfl
@[simp] theorem State.emit_stripColor (e : Event) : (s.emit e).stripColor = s.stripColor := rfl
@[simp] theorem State.emit_statusLed (e : Event) : (s.emit e).statusLed = s.statusLed := rfl
@[simp] theorem State.emit_modeOut (e : Event) : (s.emit e).modeOut = s.modeOut := rfl
@[simp] theorem State.emit_hist (e : Event) : (s.emit e).hist = s.hist ++ [e] := rfl
@[simp] theorem State.emit_params (e : Event) : (s.emit e).params = s.params := rfl
@[simp] theorem State.emit_agenda (e : Event) : (s.emit e).agenda = s.agenda := rfl
@[simp] theorem State.emit_choices (e : Event) : (s.emit e).choices = s.choices := rfl
@[simp] theorem State.emit_drawSeed (e : Event) : (s.emit e).drawSeed = s.drawSeed := rfl
@[simp] theorem State.emit_draws (e : Event) : (s.emit e).draws = s.draws := rfl
@[simp] theorem State.emit_report (e : Event) : (s.emit e).report = s.report := rfl

/-! ## writeServo -/

@[simp] theorem State.writeServo_phase (v : Word) : (s.writeServo v).phase = s.phase := rfl
@[simp] theorem State.writeServo_isFirst (v : Word) : (s.writeServo v).isFirst = s.isFirst := rfl
@[simp] theorem State.writeServo_storedByte (v : Word) : (s.writeServo v).storedByte = s.storedByte := rfl
@[simp] theorem State.writeServo_rxBuf (v : Word) : (s.writeServo v).rxBuf = s.rxBuf := rfl
@[simp] theorem State.writeServo_rxPending (v : Word) : (s.writeServo v).rxPending = s.rxPending := rfl
@[simp] theorem State.writeServo_fwdWait (v : Word) : (s.writeServo v).fwdWait = s.fwdWait := rfl
@[simp] theorem State.writeServo_linkCnt (v : Word) : (s.writeServo v).linkCnt = s.linkCnt := rfl
@[simp] theorem State.writeServo_idleLatch (v : Word) : (s.writeServo v).idleLatch = s.idleLatch := rfl
@[simp] theorem State.writeServo_servoCmp (v : Word) : (s.writeServo v).servoCmp = v := rfl
@[simp] theorem State.writeServo_stripColor (v : Word) : (s.writeServo v).stripColor = s.stripColor := rfl
@[simp] theorem State.writeServo_statusLed (v : Word) : (s.writeServo v).statusLed = s.statusLed := rfl
@[simp] theorem State.writeServo_modeOut (v : Word) : (s.writeServo v).modeOut = s.modeOut := rfl
@[simp] theorem State.writeServo_hist (v : Word) : (s.writeServo v).hist = s.hist ++ [.servoWrite v] := rfl
@[simp] theorem State.writeServo_params (v : Word) : (s.writeServo v).params = s.params := rfl
@[simp] theorem State.writeServo_agenda (v : Word) : (s.writeServo v).agenda = s.agenda := rfl
@[simp] theorem State.writeServo_choices (v : Word) : (s.writeServo v).choices = s.choices := rfl
@[simp] theorem State.writeServo_drawSeed (v : Word) : (s.writeServo v).drawSeed = s.drawSeed := rfl
@[simp] theorem State.writeServo_draws (v : Word) : (s.writeServo v).draws = s.draws := rfl
@[simp] theorem State.writeServo_report (v : Word) : (s.writeServo v).report = s.report := rfl

/-! ## writeStrip -/

@[simp] theorem State.writeStrip_phase (c : Color) : (s.writeStrip c).phase = s.phase := rfl
@[simp] theorem State.writeStrip_isFirst (c : Color) : (s.writeStrip c).isFirst = s.isFirst := rfl
@[simp] theorem State.writeStrip_storedByte (c : Color) : (s.writeStrip c).storedByte = s.storedByte := rfl
@[simp] theorem State.writeStrip_rxBuf (c : Color) : (s.writeStrip c).rxBuf = s.rxBuf := rfl
@[simp] theorem State.writeStrip_rxPending (c : Color) : (s.writeStrip c).rxPending = s.rxPending := rfl
@[simp] theorem State.writeStrip_fwdWait (c : Color) : (s.writeStrip c).fwdWait = s.fwdWait := rfl
@[simp] theorem State.writeStrip_linkCnt (c : Color) : (s.writeStrip c).linkCnt = s.linkCnt := rfl
@[simp] theorem State.writeStrip_idleLatch (c : Color) : (s.writeStrip c).idleLatch = s.idleLatch := rfl
@[simp] theorem State.writeStrip_servoCmp (c : Color) : (s.writeStrip c).servoCmp = s.servoCmp := rfl
@[simp] theorem State.writeStrip_stripColor (c : Color) : (s.writeStrip c).stripColor = some c := rfl
@[simp] theorem State.writeStrip_statusLed (c : Color) : (s.writeStrip c).statusLed = s.statusLed := rfl
@[simp] theorem State.writeStrip_modeOut (c : Color) : (s.writeStrip c).modeOut = s.modeOut := rfl
@[simp] theorem State.writeStrip_hist (c : Color) : (s.writeStrip c).hist = s.hist ++ [.strip c] := rfl
@[simp] theorem State.writeStrip_params (c : Color) : (s.writeStrip c).params = s.params := rfl
@[simp] theorem State.writeStrip_agenda (c : Color) : (s.writeStrip c).agenda = s.agenda := rfl
@[simp] theorem State.writeStrip_choices (c : Color) : (s.writeStrip c).choices = s.choices := rfl
@[simp] theorem State.writeStrip_drawSeed (c : Color) : (s.writeStrip c).drawSeed = s.drawSeed := rfl
@[simp] theorem State.writeStrip_draws (c : Color) : (s.writeStrip c).draws = s.draws := rfl
@[simp] theorem State.writeStrip_report (c : Color) : (s.writeStrip c).report = s.report := rfl

/-! ## writeStatus -/

@[simp] theorem State.writeStatus_phase (l : Bool) : (s.writeStatus l).phase = s.phase := rfl
@[simp] theorem State.writeStatus_isFirst (l : Bool) : (s.writeStatus l).isFirst = s.isFirst := rfl
@[simp] theorem State.writeStatus_storedByte (l : Bool) : (s.writeStatus l).storedByte = s.storedByte := rfl
@[simp] theorem State.writeStatus_rxBuf (l : Bool) : (s.writeStatus l).rxBuf = s.rxBuf := rfl
@[simp] theorem State.writeStatus_rxPending (l : Bool) : (s.writeStatus l).rxPending = s.rxPending := rfl
@[simp] theorem State.writeStatus_fwdWait (l : Bool) : (s.writeStatus l).fwdWait = s.fwdWait := rfl
@[simp] theorem State.writeStatus_linkCnt (l : Bool) : (s.writeStatus l).linkCnt = s.linkCnt := rfl
@[simp] theorem State.writeStatus_idleLatch (l : Bool) : (s.writeStatus l).idleLatch = s.idleLatch := rfl
@[simp] theorem State.writeStatus_servoCmp (l : Bool) : (s.writeStatus l).servoCmp = s.servoCmp := rfl
@[simp] theorem State.writeStatus_stripColor (l : Bool) : (s.writeStatus l).stripColor = s.stripColor := rfl
@[simp] theorem State.writeStatus_statusLed (l : Bool) : (s.writeStatus l).statusLed = l := rfl
@[simp] theorem State.writeStatus_modeOut (l : Bool) : (s.writeStatus l).modeOut = s.modeOut := rfl
@[simp] theorem State.writeStatus_hist (l : Bool) : (s.writeStatus l).hist = s.hist ++ [.status l] := rfl
@[simp] theorem State.writeStatus_params (l : Bool) : (s.writeStatus l).params = s.params := rfl
@[simp] theorem State.writeStatus_agenda (l : Bool) : (s.writeStatus l).agenda = s.agenda := rfl
@[simp] theorem State.writeStatus_choices (l : Bool) : (s.writeStatus l).choices = s.choices := rfl
@[simp] theorem State.writeStatus_drawSeed (l : Bool) : (s.writeStatus l).drawSeed = s.drawSeed := rfl
@[simp] theorem State.writeStatus_draws (l : Bool) : (s.writeStatus l).draws = s.draws := rfl
@[simp] theorem State.writeStatus_report (l : Bool) : (s.writeStatus l).report = s.report := rfl

/-! ## writeModeOut -/

@[simp] theorem State.writeModeOut_phase (m : Pins) : (s.writeModeOut m).phase = s.phase := rfl
@[simp] theorem State.writeModeOut_isFirst (m : Pins) : (s.writeModeOut m).isFirst = s.isFirst := rfl
@[simp] theorem State.writeModeOut_storedByte (m : Pins) : (s.writeModeOut m).storedByte = s.storedByte := rfl
@[simp] theorem State.writeModeOut_rxBuf (m : Pins) : (s.writeModeOut m).rxBuf = s.rxBuf := rfl
@[simp] theorem State.writeModeOut_rxPending (m : Pins) : (s.writeModeOut m).rxPending = s.rxPending := rfl
@[simp] theorem State.writeModeOut_fwdWait (m : Pins) : (s.writeModeOut m).fwdWait = s.fwdWait := rfl
@[simp] theorem State.writeModeOut_linkCnt (m : Pins) : (s.writeModeOut m).linkCnt = s.linkCnt := rfl
@[simp] theorem State.writeModeOut_idleLatch (m : Pins) : (s.writeModeOut m).idleLatch = s.idleLatch := rfl
@[simp] theorem State.writeModeOut_servoCmp (m : Pins) : (s.writeModeOut m).servoCmp = s.servoCmp := rfl
@[simp] theorem State.writeModeOut_stripColor (m : Pins) : (s.writeModeOut m).stripColor = s.stripColor := rfl
@[simp] theorem State.writeModeOut_statusLed (m : Pins) : (s.writeModeOut m).statusLed = s.statusLed := rfl
@[simp] theorem State.writeModeOut_modeOut (m : Pins) : (s.writeModeOut m).modeOut = m := rfl
@[simp] theorem State.writeModeOut_hist (m : Pins) : (s.writeModeOut m).hist = s.hist ++ [.modeOut m] := rfl
@[simp] theorem State.writeModeOut_params (m : Pins) : (s.writeModeOut m).params = s.params := rfl
@[simp] theorem State.writeModeOut_agenda (m : Pins) : (s.writeModeOut m).agenda = s.agenda := rfl
@[simp] theorem State.writeModeOut_choices (m : Pins) : (s.writeModeOut m).choices = s.choices := rfl
@[simp] theorem State.writeModeOut_drawSeed (m : Pins) : (s.writeModeOut m).drawSeed = s.drawSeed := rfl
@[simp] theorem State.writeModeOut_draws (m : Pins) : (s.writeModeOut m).draws = s.draws := rfl
@[simp] theorem State.writeModeOut_report (m : Pins) : (s.writeModeOut m).report = s.report := rfl

/-! ## linkReset -/

@[simp] theorem State.linkReset_phase : (s.linkReset).phase = s.phase := rfl
@[simp] theorem State.linkReset_isFirst : (s.linkReset).isFirst = s.isFirst := rfl
@[simp] theorem State.linkReset_storedByte : (s.linkReset).storedByte = s.storedByte := rfl
@[simp] theorem State.linkReset_rxBuf : (s.linkReset).rxBuf = s.rxBuf := rfl
@[simp] theorem State.linkReset_rxPending : (s.linkReset).rxPending = s.rxPending := rfl
@[simp] theorem State.linkReset_fwdWait : (s.linkReset).fwdWait = s.fwdWait := rfl
@[simp] theorem State.linkReset_linkCnt : (s.linkReset).linkCnt = 0 := rfl
@[simp] theorem State.linkReset_idleLatch :
    (s.linkReset).idleLatch = if s.params.rxClearsLatch then false else s.idleLatch := rfl
@[simp] theorem State.linkReset_servoCmp : (s.linkReset).servoCmp = s.servoCmp := rfl
@[simp] theorem State.linkReset_stripColor : (s.linkReset).stripColor = s.stripColor := rfl
@[simp] theorem State.linkReset_statusLed : (s.linkReset).statusLed = s.statusLed := rfl
@[simp] theorem State.linkReset_modeOut : (s.linkReset).modeOut = s.modeOut := rfl
@[simp] theorem State.linkReset_hist : (s.linkReset).hist = s.hist := rfl
@[simp] theorem State.linkReset_params : (s.linkReset).params = s.params := rfl
@[simp] theorem State.linkReset_agenda : (s.linkReset).agenda = s.agenda := rfl
@[simp] theorem State.linkReset_choices : (s.linkReset).choices = s.choices := rfl
@[simp] theorem State.linkReset_drawSeed : (s.linkReset).drawSeed = s.drawSeed := rfl
@[simp] theorem State.linkReset_draws : (s.linkReset).draws = s.draws := rfl
@[simp] theorem State.linkReset_report : (s.linkReset).report = s.report := rfl

/-! ## enterHandler -/

@[simp] theorem State.enterHandler_phase : (s.enterHandler).phase = s.phase := rfl
@[simp] theorem State.enterHandler_isFirst : (s.enterHandler).isFirst = s.isFirst := rfl
@[simp] theorem State.enterHandler_storedByte : (s.enterHandler).storedByte = s.storedByte := rfl
@[simp] theorem State.enterHandler_rxBuf : (s.enterHandler).rxBuf = s.rxBuf := rfl
@[simp] theorem State.enterHandler_rxPending : (s.enterHandler).rxPending = false := rfl
@[simp] theorem State.enterHandler_fwdWait : (s.enterHandler).fwdWait = s.fwdWait := rfl
@[simp] theorem State.enterHandler_linkCnt : (s.enterHandler).linkCnt = s.linkCnt := rfl
@[simp] theorem State.enterHandler_idleLatch : (s.enterHandler).idleLatch = s.idleLatch := rfl
@[simp] theorem State.enterHandler_servoCmp : (s.enterHandler).servoCmp = s.servoCmp := rfl
@[simp] theorem State.enterHandler_stripColor : (s.enterHandler).stripColor = s.stripColor := rfl
@[simp] theorem State.enterHandler_statusLed : (s.enterHandler).statusLed = s.statusLed := rfl
@[simp] theorem State.enterHandler_modeOut : (s.enterHandler).modeOut = s.modeOut := rfl
@[simp] theorem State.enterHandler_hist : (s.enterHandler).hist = s.hist := rfl
@[simp] theorem State.enterHandler_params : (s.enterHandler).params = s.params := rfl
@[simp] theorem State.enterHandler_agenda : (s.enterHandler).agenda = s.agenda := rfl
@[simp] theorem State.enterHandler_choices : (s.enterHandler).choices = s.choices := rfl
@[simp] theorem State.enterHandler_drawSeed : (s.enterHandler).drawSeed = s.drawSeed := rfl
@[simp] theorem State.enterHandler_draws : (s.enterHandler).draws = s.draws := rfl
@[simp] theorem State.enterHandler_report : (s.enterHandler).report = s.report := rfl

/-! ## leaveHandler -/

@[simp] theorem State.leaveHandler_phase : (s.leaveHandler).phase = s.phase := rfl
@[simp] theorem State.leaveHandler_isFirst : (s.leaveHandler).isFirst = s.isFirst := rfl
@[simp] theorem State.leaveHandler_storedByte : (s.leaveHandler).storedByte = s.storedByte := rfl
@[simp] theorem State.leaveHandler_rxBuf : (s.leaveHandler).rxBuf = s.rxBuf := rfl
@[simp] theorem State.leaveHandler_rxPending : (s.leaveHandler).rxPending = s.rxPending := rfl
@[simp] theorem State.leaveHandler_fwdWait : (s.leaveHandler).fwdWait = none := rfl
@[simp] theorem State.leaveHandler_linkCnt : (s.leaveHandler).linkCnt = s.linkCnt := rfl
@[simp] theorem State.leaveHandler_idleLatch : (s.leaveHandler).idleLatch = s.idleLatch := rfl
@[simp] theorem State.leaveHandler_servoCmp : (s.leaveHandler).servoCmp = s.servoCmp := rfl
@[simp] theorem State.leaveHandler_stripColor : (s.leaveHandler).stripColor = s.stripColor := rfl
@[simp] theorem State.leaveHandler_statusLed : (s.leaveHandler).statusLed = s.statusLed := rfl
@[simp] theorem State.leaveHandler_modeOut : (s.leaveHandler).modeOut = s.modeOut := rfl
@[simp] theorem State.leaveHandler_hist : (s.leaveHandler).hist = s.hist := rfl
@[simp] theorem State.leaveHandler_params : (s.leaveHandler).params = s.params := rfl
@[simp] theorem State.leaveHandler_agenda : (s.leaveHandler).agenda = s.agenda := rfl
@[simp] theorem State.leaveHandler_choices : (s.leaveHandler).choices = s.choices := rfl
@[simp] theorem State.leaveHandler_drawSeed : (s.leaveHandler).drawSeed = s.drawSeed := rfl
@[simp] theorem State.leaveHandler_draws : (s.leaveHandler).draws = s.draws := rfl
@[simp] theorem State.leaveHandler_report : (s.leaveHandler).report = s.report := rfl

/-! ## startForward -/

@[simp] theorem State.startForward_phase (b : Byte) : (s.startForward b).phase = s.phase := rfl
@[simp] theorem State.startForward_isFirst (b : Byte) : (s.startForward b).isFirst = s.isFirst := rfl
@[simp] theorem State.startForward_storedByte (b : Byte) : (s.startForward b).storedByte = s.storedByte := rfl
@[simp] theorem State.startForward_rxBuf (b : Byte) : (s.startForward b).rxBuf = s.rxBuf := rfl
@[simp] theorem State.startForward_rxPending (b : Byte) : (s.startForward b).rxPending = s.rxPending := rfl
@[simp] theorem State.startForward_fwdWait (b : Byte) : (s.startForward b).fwdWait = some b := rfl
@[simp] theorem State.startForward_linkCnt (b : Byte) : (s.startForward b).linkCnt = s.linkCnt := rfl
@[simp] theorem State.startForward_idleLatch (b : Byte) : (s.startForward b).idleLatch = s.idleLatch := rfl
@[simp] theorem State.startForward_servoCmp (b : Byte) : (s.startForward b).servoCmp = s.servoCmp := rfl
@[simp] theorem State.startForward_stripColor (b : Byte) : (s.startForward b).stripColor = s.stripColor := rfl
@[simp] theorem State.startForward_statusLed (b : Byte) : (s.startForward b).statusLed = s.statusLed := rfl
@[simp] theorem State.startForward_modeOut (b : Byte) : (s.startForward b).modeOut = s.modeOut := rfl
@[simp] theorem State.startForward_hist (b : Byte) : (s.startForward b).hist = s.hist := rfl
@[simp] theorem State.startForward_params (b : Byte) : (s.startForward b).params = s.params := rfl
@[simp] theorem State.startForward_agenda (b : Byte) : (s.startForward b).agenda = s.agenda := rfl
@[simp] theorem State.startForward_choices (b : Byte) : (s.startForward b).choices = s.choices := rfl
@[simp] theorem State.startForward_drawSeed (b : Byte) : (s.startForward b).drawSeed = s.drawSeed := rfl
@[simp] theorem State.startForward_draws (b : Byte) : (s.startForward b).draws = s.draws := rfl
@[simp] theorem State.startForward_report (b : Byte) : (s.startForward b).report = s.report := rfl

/-! ## boot -/

@[simp] theorem State.boot_phase (ok : Bool) : (s.boot ok).phase = if ok then .run else .halted := rfl
@[simp] theorem State.boot_isFirst (ok : Bool) : (s.boot ok).isFirst = true := rfl
@[simp] theorem State.boot_storedByte (ok : Bool) :
    (s.boot ok).storedByte = Config.resetStoredByte s.drawSeed s.draws := rfl
@[simp] theorem State.boot_rxBuf (ok : Bool) : (s.boot ok).rxBuf = Config.resetRxBuf s.drawSeed s.draws := rfl
@[simp] theorem State.boot_rxPending (ok : Bool) : (s.boot ok).rxPending = false := rfl
@[simp] theorem State.boot_fwdWait (ok : Bool) : (s.boot ok).fwdWait = none := rfl
@[simp] theorem State.boot_linkCnt (ok : Bool) : (s.boot ok).linkCnt = 0 := rfl
@[simp] theorem State.boot_idleLatch (ok : Bool) : (s.boot ok).idleLatch = false := rfl
@[simp] theorem State.boot_servoCmp (ok : Bool) :
    (s.boot ok).servoCmp = Config.resetServoCmp s.drawSeed s.draws := rfl
@[simp] theorem State.boot_stripColor (ok : Bool) : (s.boot ok).stripColor = none := rfl
@[simp] theorem State.boot_statusLed (ok : Bool) :
    (s.boot ok).statusLed = Config.resetStatusLed s.drawSeed s.draws := rfl
@[simp] theorem State.boot_modeOut (ok : Bool) : (s.boot ok).modeOut = Config.resetModeOut s.drawSeed s.draws := rfl
@[simp] theorem State.boot_hist (ok : Bool) : (s.boot ok).hist = s.hist := rfl
@[simp] theorem State.boot_params (ok : Bool) : (s.boot ok).params = s.params := rfl
@[simp] theorem State.boot_agenda (ok : Bool) : (s.boot ok).agenda = s.agenda := rfl
@[simp] theorem State.boot_choices (ok : Bool) : (s.boot ok).choices = s.choices := rfl
@[simp] theorem State.boot_drawSeed (ok : Bool) : (s.boot ok).drawSeed = s.drawSeed := rfl
@[simp] theorem State.boot_draws (ok : Bool) : (s.boot ok).draws = s.draws + 1 := rfl
@[simp] theorem State.boot_report (ok : Bool) : (s.boot ok).report = s.report := rfl

/-! ## reporting -/

@[simp] theorem State.reporting_phase (r : Report) : (s.reporting r).phase = s.phase := rfl
@[simp] theorem State.reporting_isFirst (r : Report) : (s.reporting r).isFirst = s.isFirst := rfl
@[simp] theorem State.reporting_storedByte (r : Report) : (s.reporting r).storedByte = s.storedByte := rfl
@[simp] theorem State.reporting_rxBuf (r : Report) : (s.reporting r).rxBuf = s.rxBuf := rfl
@[simp] theorem State.reporting_rxPending (r : Report) : (s.reporting r).rxPending = s.rxPending := rfl
@[simp] theorem State.reporting_fwdWait (r : Report) : (s.reporting r).fwdWait = s.fwdWait := rfl
@[simp] theorem State.reporting_linkCnt (r : Report) : (s.reporting r).linkCnt = s.linkCnt := rfl
@[simp] theorem State.reporting_idleLatch (r : Report) : (s.reporting r).idleLatch = s.idleLatch := rfl
@[simp] theorem State.reporting_servoCmp (r : Report) : (s.reporting r).servoCmp = s.servoCmp := rfl
@[simp] theorem State.reporting_stripColor (r : Report) : (s.reporting r).stripColor = s.stripColor := rfl
@[simp] theorem State.reporting_statusLed (r : Report) : (s.reporting r).statusLed = s.statusLed := rfl
@[simp] theorem State.reporting_modeOut (r : Report) : (s.reporting r).modeOut = s.modeOut := rfl
@[simp] theorem State.reporting_hist (r : Report) : (s.reporting r).hist = s.hist := rfl
@[simp] theorem State.reporting_params (r : Report) : (s.reporting r).params = s.params := rfl
@[simp] theorem State.reporting_agenda (r : Report) : (s.reporting r).agenda = s.agenda := rfl
@[simp] theorem State.reporting_choices (r : Report) : (s.reporting r).choices = s.choices := rfl
@[simp] theorem State.reporting_drawSeed (r : Report) : (s.reporting r).drawSeed = s.drawSeed := rfl
@[simp] theorem State.reporting_draws (r : Report) : (s.reporting r).draws = s.draws := rfl
@[simp] theorem State.reporting_report (r : Report) : (s.reporting r).report = r := rfl

end Sys2Proof.Machine
end

