-- ==== Sys2Proof/Laws/Ops.lean ====
section
/-! SUPPORT. One lemma per shared operation: everything it can do, said once. -/

namespace Sys2Proof.Machine

/-- The mapper is exact: its largest value is far below 2^16 (R77). -/
theorem mapServo_toNat (b : Byte) : (mapServo b).toNat = b.toNat * 15 + 4000 := by
  have hb := b.isLt
  simp only [mapServo, BitVec.toNat_ofNat]
  omega

/-- The accept branch as one record update (R95). -/
theorem accept_eq (s : State) (b : Byte) :
    s.accept b = { s with
      storedByte := b
      servoCmp := mapServo b
      stripColor := some (colorOf b)
      isFirst := false
      linkCnt := 0
      idleLatch := if s.params.rxClearsLatch then false else s.idleLatch
      hist := s.hist ++ ([.servoWrite (mapServo b), .strip (colorOf b)] : List Event) } := by
  simp [State.accept, State.writeServo, State.writeStrip, State.linkReset]

/-- The forward branch after the wait as one record update (R103). -/
theorem finishForward_eq (s : State) (b : Byte) :
    s.finishForward b = { s with
      fwdWait := none
      stripColor := some .cyan
      linkCnt := 0
      idleLatch := if s.params.rxClearsLatch then false else s.idleLatch
      hist := s.hist ++ ([.tx b, .strip .cyan] : List Event) } := by
  simp [State.finishForward, State.emit, State.writeStrip, State.linkReset, State.leaveHandler]

/-- A poll in mode RELAY_IDLE on a set latch as one record update (R104, R105). -/
theorem pollIdle_hit (s : State) (h : s.idleLatch = true) :
    s.pollIdle = { s with
      modeOut := 0
      idleLatch := false
      isFirst := true
      statusLed := !s.statusLed
      hist := s.hist ++ ([.modeOut 0, .status (!s.statusLed)] : List Event) } := by
  have hp : pins false false = 0 := by decide
  simp [State.pollIdle, State.pollCommon, State.checkIdle, State.idleHit, State.writeModeOut, State.writeStatus, h, hp]

/-- A poll in mode RELAY_IDLE on a clear latch as one record update (R104, R106). -/
theorem pollIdle_miss (s : State) (h : s.idleLatch = false) :
    s.pollIdle = { s with
      modeOut := 0
      statusLed := s.params.statusFixedLevel
      hist := s.hist ++ ([.modeOut 0, .status s.params.statusFixedLevel] : List Event) } := by
  have hp : pins false false = 0 := by decide
  simp [State.pollIdle, State.pollCommon, State.checkIdle, State.idleMiss, State.writeModeOut, State.writeStatus, h, hp]

theorem whenReady_halted {s : State} (h : s.phase = .halted) (r : Bool) (u : State) :
    whenReady s r u = .fault .clockCalibrationMissing := by
  simp [whenReady, h]

theorem whenReady_run {s : State} (h : s.phase = .run) (r : Bool) (u : State) :
    whenReady s r u = if r then taken u else held s := by
  simp [whenReady, h]

/-- What an operation other than RESET can answer with a next state: in RUN, its effect where ready, the state kept where
not. -/
theorem whenReady_next {s u t : State} {r : Bool} (h : whenReady s r u = .next t) :
    s.phase = .run ∧ ((r = true ∧ t = u.reporting .taken) ∨ (r = false ∧ t = s.reporting .noStep)) := by
  cases hp : s.phase with
  | halted => simp [whenReady, hp] at h
  | run =>
    cases r <;> simp [whenReady, hp, taken, held] at h <;> simp [h]

theorem whenReady_fault {s u : State} {r : Bool} {f : Fault} (h : whenReady s r u = .fault f) :
    s.phase = .halted ∧ f = .clockCalibrationMissing := by
  cases hp : s.phase with
  | halted => cases f; exact ⟨rfl, rfl⟩
  | run => cases r <;> simp [whenReady, hp, taken, held] at h

theorem whenReady_not_refused (s u : State) (r : Bool) (q : Refusal) : whenReady s r u ≠ .refused q := by
  cases hp : s.phase <;> cases r <;> simp [whenReady, hp, taken, held]

end Sys2Proof.Machine
end

