-- ==== Sys2Proof/Laws/Exec.lean ====
section
/-! SUPPORT. What exec can answer, said once for all rows: the inversion every invariant goes through. -/

namespace Sys2Proof.Machine

/-- The ways exec answers a next state: RESET; a request with no effect on the node (no step, or a pure function's row),
which only writes the report; or, in RUN, one row's effect under its own condition. -/
theorem exec_next_cases {i : Instr} {s t : State} (h : exec i s = .next t) :
    (∃ ok, i = .reset ok ∧ t = (s.boot ok).reporting .taken) ∨
    (∃ r, t = s.reporting r) ∨
    (s.phase = .run ∧
      ((∃ b, i = .rxArrive b ∧ t = { s with rxBuf := b, rxPending := true, report := .taken }) ∨
      (i = .tickCount ∧ flagW s = false ∧ t = { s with linkCnt := s.linkCnt + 1, report := .taken }) ∨
      (i = .tickWrap ∧ flagW s = true ∧ t = { s with linkCnt := 0, idleLatch := true, report := .taken }) ∨
      (i = .rxAccept ∧ s.rxPending = true ∧ s.fwdWait = none ∧ s.isFirst = true ∧
        t = (s.enterHandler.accept s.rxBuf).reporting .taken) ∨
      (i = .rxForward ∧ s.rxPending = true ∧ s.fwdWait = none ∧ s.isFirst = false ∧
        t = (s.enterHandler.startForward s.rxBuf).reporting .taken) ∨
      (∃ b, i = .txIssue ∧ s.fwdWait = some b ∧ t = (s.finishForward b).reporting .taken) ∨
      (i = .pollIdleMiss ∧ s.fwdWait = none ∧ s.idleLatch = false ∧ t = s.pollIdle.reporting .taken) ∨
      (i = .pollIdleHit ∧ s.fwdWait = none ∧ s.idleLatch = true ∧ t = s.pollIdle.reporting .taken) ∨
      (i = .pollFwdA ∧ s.fwdWait = none ∧ t = (s.writeModeOut 1).reporting .taken) ∨
      (i = .pollFwdB ∧ s.fwdWait = none ∧ t = (s.writeModeOut 2).reporting .taken) ∨
      (i = .pollFwdBoth ∧ s.fwdWait = none ∧ t = (s.writeModeOut 3).reporting .taken))) := by
  cases i with
  | reset ok => exact .inl ⟨ok, rfl, by simpa [exec, execReset, taken] using h.symm⟩
  | rxArrive b =>
    obtain ⟨hp, ⟨-, rfl⟩ | ⟨h, -⟩⟩ := whenReady_next h
    · exact .inr (.inr ⟨hp, .inl ⟨b, rfl, rfl⟩⟩)
    · cases h
  | tickCount =>
    obtain ⟨hp, ⟨hw, rfl⟩ | ⟨-, rfl⟩⟩ := whenReady_next h
    · exact .inr (.inr ⟨hp, .inr (.inl ⟨rfl, by simpa using hw, rfl⟩)⟩)
    · exact .inr (.inl ⟨_, rfl⟩)
  | tickWrap =>
    obtain ⟨hp, ⟨hw, rfl⟩ | ⟨-, rfl⟩⟩ := whenReady_next h
    · exact .inr (.inr ⟨hp, .inr (.inr (.inl ⟨rfl, hw, rfl⟩))⟩)
    · exact .inr (.inl ⟨_, rfl⟩)
  | rxForward =>
    obtain ⟨hp, ⟨hw, rfl⟩ | ⟨-, rfl⟩⟩ := whenReady_next h
    · simp only [Bool.and_eq_true, rxServiceReady_iff, flagF, Bool.not_eq_true'] at hw
      exact .inr (.inr ⟨hp, .inr (.inr (.inr (.inr (.inl ⟨rfl, hw.1.1, hw.1.2, hw.2, rfl⟩))))⟩)
    · exact .inr (.inl ⟨_, rfl⟩)
  | rxAccept =>
    obtain ⟨hp, ⟨hw, rfl⟩ | ⟨-, rfl⟩⟩ := whenReady_next h
    · simp only [Bool.and_eq_true, rxServiceReady_iff, flagF] at hw
      exact .inr (.inr ⟨hp, .inr (.inr (.inr (.inl ⟨rfl, hw.1.1, hw.1.2, hw.2, rfl⟩)))⟩)
    · exact .inr (.inl ⟨_, rfl⟩)
  | txIssue =>
    obtain ⟨hp, ⟨hw, rfl⟩ | ⟨-, rfl⟩⟩ := whenReady_next h
    · obtain ⟨b, hb⟩ := (txIssueReady_iff s).1 hw
      exact .inr (.inr ⟨hp, .inr (.inr (.inr (.inr (.inr (.inl ⟨b, rfl, hb, by simp [hb]⟩)))))⟩)
    · exact .inr (.inl ⟨_, rfl⟩)
  | pollIdleMiss =>
    obtain ⟨hp, ⟨hw, rfl⟩ | ⟨-, rfl⟩⟩ := whenReady_next h
    · simp only [Bool.and_eq_true, pollReady_iff, flagL, Bool.not_eq_true'] at hw
      exact .inr (.inr ⟨hp, .inr (.inr (.inr (.inr (.inr (.inr (.inl ⟨rfl, hw.1, hw.2, rfl⟩))))))⟩)
    · exact .inr (.inl ⟨_, rfl⟩)
  | pollIdleHit =>
    obtain ⟨hp, ⟨hw, rfl⟩ | ⟨-, rfl⟩⟩ := whenReady_next h
    · simp only [Bool.and_eq_true, pollReady_iff, flagL] at hw
      exact .inr (.inr ⟨hp, .inr (.inr (.inr (.inr (.inr (.inr (.inr (.inl ⟨rfl, hw.1, hw.2, rfl⟩)))))))⟩)
    · exact .inr (.inl ⟨_, rfl⟩)
  | pollFwdA =>
    obtain ⟨hp, ⟨hw, rfl⟩ | ⟨-, rfl⟩⟩ := whenReady_next h
    · refine .inr (.inr ⟨hp, .inr (.inr (.inr (.inr (.inr (.inr (.inr (.inr (.inl ⟨rfl, ?_, ?_⟩))))))))⟩)
      · exact (pollReady_iff s).1 hw
      · simp [State.pollCommon]
    · exact .inr (.inl ⟨_, rfl⟩)
  | pollFwdB =>
    obtain ⟨hp, ⟨hw, rfl⟩ | ⟨-, rfl⟩⟩ := whenReady_next h
    · refine .inr (.inr ⟨hp, .inr (.inr (.inr (.inr (.inr (.inr (.inr (.inr (.inr (.inl ⟨rfl, ?_, ?_⟩)))))))))⟩)
      · exact (pollReady_iff s).1 hw
      · simp [State.pollCommon]
    · exact .inr (.inl ⟨_, rfl⟩)
  | pollFwdBoth =>
    obtain ⟨hp, ⟨hw, rfl⟩ | ⟨-, rfl⟩⟩ := whenReady_next h
    · refine .inr (.inr ⟨hp, .inr (.inr (.inr (.inr (.inr (.inr (.inr (.inr (.inr (.inr ⟨rfl, ?_, ?_⟩)))))))))⟩)
      · exact (pollReady_iff s).1 hw
      · simp [State.pollCommon]
    · exact .inr (.inl ⟨_, rfl⟩)
  | decodeRelayIdle => exact .inr (.inl ⟨_, by simpa [exec, execDecodeRelayIdle, returning] using h.symm⟩)
  | decodeForwardA => exact .inr (.inl ⟨_, by simpa [exec, execDecodeForwardA, returning] using h.symm⟩)
  | decodeForwardB => exact .inr (.inl ⟨_, by simpa [exec, execDecodeForwardB, returning] using h.symm⟩)
  | decodeForwardBoth => exact .inr (.inl ⟨_, by simpa [exec, execDecodeForwardBoth, returning] using h.symm⟩)
  | acceptColorBlue => exact .inr (.inl ⟨_, by simpa [exec, execAcceptColorBlue, returning] using h.symm⟩)
  | acceptColorRed => exact .inr (.inl ⟨_, by simpa [exec, execAcceptColorRed, returning] using h.symm⟩)
  | acceptColorGreen => exact .inr (.inl ⟨_, by simpa [exec, execAcceptColorGreen, returning] using h.symm⟩)
  | acceptColorWhite => exact .inr (.inl ⟨_, by simpa [exec, execAcceptColorWhite, returning] using h.symm⟩)
  | acceptColorAmber b => exact .inr (.inl ⟨_, by simpa [exec, execAcceptColorAmber, returning] using h.symm⟩)
  | mapServo b => exact .inr (.inl ⟨_, by simpa [exec, execMapServo, returning] using h.symm⟩)

end Sys2Proof.Machine
end

