-- ==== Sys2Proof/Laws/PerInstr.lean ====
section
/-! SUPPORT. A family of statements made per instruction: the length of an instruction's code (30_encoding.md R59). -/

/-- The code of an instruction is two bytes for RX_ARRIVE and one byte for every other row (R59). -/
def Sys2Proof.Laws.CodeLength.Statement (i : Sys2Proof.Instr) : Prop :=
  ∀ dc : Sys2Proof.Byte, i.wellFormed = true →
    (Sys2Proof.encodeWith dc i).bytes.length = (match i with | .rxArrive _ => 2 | _ => 1)

namespace Sys2Proof.Laws.CodeLength

theorem reset (calibOk : Bool) : Statement (.reset calibOk) := fun _ _ => rfl
theorem rxArrive (b : Byte) : Statement (.rxArrive b) := fun _ _ => rfl
theorem tickCount : Statement .tickCount := fun _ _ => rfl
theorem tickWrap : Statement .tickWrap := fun _ _ => rfl
theorem rxForward : Statement .rxForward := fun _ _ => rfl
theorem rxAccept : Statement .rxAccept := fun _ _ => rfl
theorem txIssue : Statement .txIssue := fun _ _ => rfl
theorem pollIdleMiss : Statement .pollIdleMiss := fun _ _ => rfl
theorem pollIdleHit : Statement .pollIdleHit := fun _ _ => rfl
theorem pollFwdA : Statement .pollFwdA := fun _ _ => rfl
theorem pollFwdB : Statement .pollFwdB := fun _ _ => rfl
theorem pollFwdBoth : Statement .pollFwdBoth := fun _ _ => rfl
theorem decodeRelayIdle : Statement .decodeRelayIdle := fun _ _ => rfl
theorem decodeForwardA : Statement .decodeForwardA := fun _ _ => rfl
theorem decodeForwardB : Statement .decodeForwardB := fun _ _ => rfl
theorem decodeForwardBoth : Statement .decodeForwardBoth := fun _ _ => rfl
theorem acceptColorBlue : Statement .acceptColorBlue := fun _ _ => rfl
theorem acceptColorRed : Statement .acceptColorRed := fun _ _ => rfl
theorem acceptColorGreen : Statement .acceptColorGreen := fun _ _ => rfl
theorem acceptColorWhite : Statement .acceptColorWhite := fun _ _ => rfl
theorem acceptColorAmber (b : Byte) : Statement (.acceptColorAmber b) := fun _ _ => rfl
theorem mapServo (b : Byte) : Statement (.mapServo b) := fun _ _ => rfl

end Sys2Proof.Laws.CodeLength
end

