-- ==== Sys2Proof/Tests/Slice0.lean ====
section
/-! SUPPORT. Tests on fixed values, each expected result taken from the spec (95_test_vectors.md unless named otherwise),
and for every obligation with hypotheses a witness that meets them (`witness_<obligation>…`). -/

namespace Sys2Proof.Tests

open Sys2Proof Sys2Proof.Machine

/-- The outcome is a next state with the property. -/
def nextIs (o : Host.Outcome State Fault Refusal) (p : State → Bool) : Bool :=
  match o with
  | .next t => p t
  | .fault _ => false
  | .refused _ => false

/-- The outcome is this fault. -/
def faultIs (o : Host.Outcome State Fault Refusal) (f : Fault) : Bool :=
  match o with
  | .next _ => false
  | .fault g => g == f
  | .refused _ => false

/-- The outcome is this refusal. -/
def refusalIs (o : Host.Outcome State Fault Refusal) (r : Refusal) : Bool :=
  match o with
  | .next _ => false
  | .fault _ => false
  | .refused q => q == r

/-- The chain outcome is a next chain with the property. -/
def chainNextIs (o : Host.Outcome Chain Fault Refusal) (p : Chain → Bool) : Bool :=
  match o with
  | .next t => p t
  | .fault _ => false
  | .refused _ => false

/-! ## Small states -/

/-- The settings of a vector. -/
def par (p : Nat) (rxc sfl : Bool) : Params := { linkPeriod := p, rxClearsLatch := rxc, statusFixedLevel := sfl }

/-- A running node: period, relay flag, counter, latch. -/
def node (p : Nat) (f : Bool) (cnt : Word) (l : Bool) : State :=
  { State.reset with params := par p false false, isFirst := f, linkCnt := cnt, idleLatch := l }

/-- A node with byte `b` pending. -/
def pending (f : Bool) (b : Byte) : State := { node 3 f 0 false with rxBuf := b, rxPending := true }

/-- A node in mid-transfer with byte `b` waiting for the transmitter. -/
def waiting (b : Byte) : State := { node 3 false 0 false with fwdWait := some b }

/-- A halted node. -/
def halted : State := { State.reset with phase := .halted }

/-- A node with one request on its agenda. -/
def asked (s : State) (r : Request) : State := { s with agenda := [r] }

/-! ## Well-formedness: an ill-formed term for each check -/

theorem test_wf_blue : Instr.wellFormed (.acceptColorAmber 0x01) = false := by decide
theorem test_wf_red : Instr.wellFormed (.acceptColorAmber 0x02) = false := by decide
theorem test_wf_green : Instr.wellFormed (.acceptColorAmber 0x03) = false := by decide
theorem test_wf_white : Instr.wellFormed (.acceptColorAmber 0xFF) = false := by decide

/-! ## Decoding: words written out bit by bit from the spec -/

/-- The decoder on a step word, with CALIB_OK true and these bytes after it. -/
def stepWord (w : Byte) (rest : List Byte) : Decoded := decode { format := .step8, calibOk := true, bytes := w :: rest }

/-- 2.7, row by row: both ends of each row's don't-care bits. -/
theorem test_decode_selectors_low :
    stepWord 0b00000000 [] = .ok (.reset true) [] ∧ stepWord 0b00011111 [] = .ok (.reset true) [] ∧
    stepWord 0b00100000 [0x55] = .ok (.rxArrive 0x55) [] ∧ stepWord 0b00111111 [0xAA] = .ok (.rxArrive 0xAA) [] ∧
    stepWord 0b01000000 [] = .ok .tickCount [] ∧ stepWord 0b01010111 [] = .ok .tickCount [] ∧
    stepWord 0b01001000 [] = .ok .tickWrap [] ∧ stepWord 0b01011111 [] = .ok .tickWrap [] := by decide
theorem test_decode_selectors_mid :
    stepWord 0b01100000 [] = .ok .rxForward [] ∧ stepWord 0b01101111 [] = .ok .rxForward [] ∧
    stepWord 0b01110000 [] = .ok .rxAccept [] ∧ stepWord 0b01111111 [] = .ok .rxAccept [] ∧
    stepWord 0b10000000 [] = .ok .txIssue [] ∧ stepWord 0b10011111 [] = .ok .txIssue [] := by decide
theorem test_decode_selectors_poll :
    stepWord 0b10100000 [] = .ok .pollIdleMiss [] ∧ stepWord 0b10111000 [] = .ok .pollIdleMiss [] ∧
    stepWord 0b10100100 [] = .ok .pollIdleHit [] ∧ stepWord 0b10111100 [] = .ok .pollIdleHit [] ∧
    stepWord 0b10100001 [] = .ok .pollFwdA [] ∧ stepWord 0b10111101 [] = .ok .pollFwdA [] ∧
    stepWord 0b10100010 [] = .ok .pollFwdB [] ∧ stepWord 0b10111110 [] = .ok .pollFwdB [] ∧
    stepWord 0b10100011 [] = .ok .pollFwdBoth [] ∧ stepWord 0b10111111 [] = .ok .pollFwdBoth [] := by decide
/-- 2.7 and Z5: the reserved kinds; R59: an RX_ARRIVE word needs its operand byte. -/
theorem test_decode_rejects :
    stepWord 0b11000000 [] = .reject .reservedSelector ∧ stepWord 0b11011111 [] = .reject .reservedSelector ∧
    stepWord 0b11100000 [] = .reject .reservedSelector ∧ stepWord 0b11111111 [] = .reject .reservedSelector ∧
    stepWord 0b00100000 [] = .reject .noOperand := by decide
/-- R59: CALIB_OK is an operand of RESET and no bit of the word. -/
theorem test_decode_calib : decode { format := .step8, calibOk := false, bytes := [0b00010000] } = .ok (.reset false) [] := by
  decide
/-- R51: the four mode codes. -/
theorem test_decode_modes :
    decode { format := .mode2, calibOk := true, bytes := [0b00] } = .ok .decodeRelayIdle [] ∧
    decode { format := .mode2, calibOk := true, bytes := [0b01] } = .ok .decodeForwardA [] ∧
    decode { format := .mode2, calibOk := true, bytes := [0b10] } = .ok .decodeForwardB [] ∧
    decode { format := .mode2, calibOk := true, bytes := [0b11] } = .ok .decodeForwardBoth [] := by decide
/-- R53: the sentinels and the default row. -/
theorem test_decode_sentinels :
    decode { format := .byte8, calibOk := true, bytes := [0b00000001] } = .ok .acceptColorBlue [] ∧
    decode { format := .byte8, calibOk := true, bytes := [0b00000010] } = .ok .acceptColorRed [] ∧
    decode { format := .byte8, calibOk := true, bytes := [0b00000011] } = .ok .acceptColorGreen [] ∧
    decode { format := .byte8, calibOk := true, bytes := [0b11111111] } = .ok .acceptColorWhite [] ∧
    decode { format := .byte8, calibOk := true, bytes := [0b00000000] } = .ok (.acceptColorAmber 0) [] ∧
    decode { format := .byte8, calibOk := true, bytes := [0b11111110] } = .ok (.acceptColorAmber 0xFE) [] := by decide
theorem test_decode_map : decode { format := .map, calibOk := true, bytes := [0b00100000] } = .ok (.mapServo 0x20) [] := by decide

/-- The selector words of program lines: P1 1, P2 6, P3 8, P1 9, P6 5 and L6. -/
theorem test_selector_words :
    (fetch (.op (.rxArrive 0x01)) (node 3 true 0 false)).bytes = [0x30, 0x01] ∧
    (fetch (.op (.rxArrive 0xFF)) (node 3 false 2 false)).bytes = [0x28, 0xFF] ∧
    (fetch (.op .tick) (node 2 false 0 true)).bytes = [0x44] ∧
    (fetch (.op (.poll false false)) (node 3 false 0 true)).bytes = [0xA4] ∧
    (fetch (.op .tick) (node 2 true 1 false)).bytes = [0x58] ∧
    (fetch (.op (.poll true true)) (node 3 true 0 false)).bytes = [0xB3] := by decide

/-- A TX_ISSUE with the counter about to wrap: P2 line 8 and P3 line 9. -/
theorem test_selector_words_tx :
    (fetch (.op .txIssue) { waiting 0xFF with linkCnt := 2 }).bytes = [0x88] ∧
    (fetch (.op .txIssue) { node 2 false 1 true with fwdWait := some 7 }).bytes = [0x8C] := by decide

/-- R60 and R61. -/
theorem test_trace_lines :
    traceLine (.reset false) = "RESET fail" ∧ traceLine (.rxArrive 0x4F) = "RX 0x4F" ∧
    traceLine (.poll true false) = "POLL 1 0" := by decide
theorem test_pseudo_operations :
    sendOps (node 3 true 0 false) 0x42 = [.rxArrive 0x42, .rxService] ∧
    sendOps (node 3 false 0 false) 0x42 = [.rxArrive 0x42, .rxService, .txIssue] ∧
    idleOps (node 4 false 1 false) = [.tick, .tick, .tick] := by decide
/-- R61 with R66: a SEND whose service has no step transmits nothing, and the older byte still waits. -/
theorem test_send_while_waiting :
    sendOps (waiting 0x07) 0x42 = [.rxArrive 0x42, .rxService] ∧
    nextIs (stepOps (sendOps (waiting 0x07) 0x42) (waiting 0x07)) (fun t =>
      t.fwdWait == some 0x07 && t.rxPending && t.rxBuf == 0x42 && t.hist == []) = true := by decide
/-- R114: both codes are 1. -/
theorem test_outcome_codes : refusalCode .reservedSelector = some 1 ∧ faultCode .clockCalibrationMissing = 1 := by decide

/-- A placed table word is the next step, from reset too (log entries 10 and 11): L1's row, T3's row, X1's row. -/
theorem test_placed_words :
    nextIs (step (State.reset.withFetchWord 8 0xA4)) (fun t => t.report == .taken && t.statusLed) = true ∧
    nextIs (step (State.reset.withFetchWord 8 0x48)) (fun t => t.report == .taken && t.idleLatch) = true ∧
    nextIs (step (State.reset.withFetchWord 8 0x60)) (fun t => t.report == .taken && t.fwdWait == some 0) = true := by decide

/-! ## One step, from the spec's vectors -/

/-- Z1 and Z4. -/
theorem test_reset_ok : nextIs (exec (.reset true) { halted with isFirst := false, linkCnt := 9, idleLatch := true }) (fun t =>
    t.phase == .run && t.isFirst && !t.rxPending && t.fwdWait == none && t.linkCnt == 0 && !t.idleLatch &&
      t.stripColor == none) = true := by decide
/-- Z2, with hist kept. -/
theorem test_reset_fail : nextIs (exec (.reset false) { waiting 5 with hist := [.tx 1] }) (fun t =>
    t.phase == .halted && t.isFirst && t.fwdWait == none && t.hist == [.tx 1]) = true := by decide
/-- R2: the buffered byte is overwritten. -/
theorem test_rxArrive_overrun : nextIs (exec (.rxArrive 0x20) (pending true 0x10)) (fun t =>
    t.rxBuf == 0x20 && t.rxPending && t.hist == []) = true := by decide
/-- R3: an arrival during the transmit wait. -/
theorem test_rxArrive_waiting : nextIs (exec (.rxArrive 0x43) (waiting 0x42)) (fun t =>
    t.rxBuf == 0x43 && t.rxPending && t.fwdWait == some 0x42) = true := by decide
/-- T2. -/
theorem test_tickCount : nextIs (exec .tickCount (node 4 false 2 false)) (fun t => t.linkCnt == 3 && !t.idleLatch) = true := by
  decide
/-- T6: no overflow at the largest period. -/
theorem test_tickCount_top : nextIs (exec .tickCount (node 65536 false 65534 false)) (fun t => t.linkCnt == 65535) = true := by
  decide
/-- T7. -/
theorem test_tickWrap_top : nextIs (exec .tickWrap (node 65536 false 65535 false)) (fun t =>
    t.linkCnt == 0 && t.idleLatch) = true := by decide
/-- T5: every tick wraps when the period is 1. -/
theorem test_tickWrap_period_one : nextIs (stepOp .tick (node 1 false 0 false)) (fun t =>
    t.linkCnt == 0 && t.idleLatch) = true := by decide
/-- X1: the servo and the stored byte are kept. -/
theorem test_rxForward : nextIs (exec .rxForward { pending false 0x01 with storedByte := 0x55, servoCmp := 5275 }) (fun t =>
    t.fwdWait == some 0x01 && !t.rxPending && t.storedByte == 0x55 && t.servoCmp == 5275 && t.hist == []) = true := by decide
/-- Z7: no step while a byte waits. -/
theorem test_rxForward_held : nextIs (stepOp .rxService { waiting 1 with rxBuf := 2, rxPending := true }) (fun t =>
    t.report == .noStep && t.rxPending && t.fwdWait == some 1) = true := by decide
/-- A7. -/
theorem test_rxAccept_white : nextIs (exec .rxAccept (pending true 0xFF)) (fun t =>
    t.storedByte == 0xFF && t.servoCmp == 7825 && t.stripColor == some .white && !t.isFirst && !t.rxPending &&
      t.hist == [.servoWrite 7825, .strip .white]) = true := by decide
/-- A8: the stale latch with RX_CLEARS_LATCH false. -/
theorem test_rxAccept_stale : nextIs (exec .rxAccept { pending true 0x02 with idleLatch := true }) (fun t =>
    t.idleLatch && t.hist == [.servoWrite 4030, .strip .red]) = true := by decide
/-- X3: cyan, not white. -/
theorem test_txIssue_cyan : nextIs (exec .txIssue { waiting 0xFF with linkCnt := 1 }) (fun t =>
    t.fwdWait == none && t.linkCnt == 0 && t.stripColor == some .cyan && t.hist == [.tx 0xFF, .strip .cyan]) = true := by decide
/-- X5: the latch with RX_CLEARS_LATCH true. -/
theorem test_txIssue_clears : nextIs (exec .txIssue { waiting 3 with idleLatch := true, params := par 3 true false })
    (fun t => !t.idleLatch) = true := by decide
/-- L3. -/
theorem test_pollIdleMiss : nextIs (exec .pollIdleMiss { node 3 false 0 false with statusLed := true }) (fun t =>
    !t.isFirst && !t.idleLatch && !t.statusLed && t.hist == [.modeOut 0b00, .status false]) = true := by decide
/-- Z8: no step while a byte waits. -/
theorem test_poll_held : nextIs (stepOp (.poll false false) (waiting 1)) (fun t =>
    t.report == .noStep && t.hist == []) = true := by decide
/-- L1. -/
theorem test_pollIdleHit : nextIs (exec .pollIdleHit (node 3 false 0 true)) (fun t =>
    t.isFirst && !t.idleLatch && t.statusLed && t.hist == [.modeOut 0b00, .status true]) = true := by decide
/-- L2. -/
theorem test_pollIdleHit_toggles : nextIs (exec .pollIdleHit { node 3 true 0 true with statusLed := true }) (fun t =>
    t.isFirst && !t.idleLatch && !t.statusLed && t.hist == [.modeOut 0b00, .status false]) = true := by decide
/-- L4. -/
theorem test_pollFwdA : nextIs (stepOp (.poll false true) { node 3 false 0 true with statusLed := true }) (fun t =>
    !t.isFirst && t.idleLatch && t.statusLed && t.modeOut == 0b01 && t.hist == [.modeOut 0b01]) = true := by decide
/-- L5. -/
theorem test_pollFwdB : nextIs (stepOp (.poll true false) (node 3 false 0 true)) (fun t =>
    t.idleLatch && t.modeOut == 0b10 && t.hist == [.modeOut 0b10]) = true := by decide
/-- L6. -/
theorem test_pollFwdBoth : nextIs (stepOp (.poll true true) (node 3 true 0 false)) (fun t =>
    t.isFirst && t.modeOut == 0b11 && t.hist == [.modeOut 0b11]) = true := by decide
/-- M1 to M4 and E6. -/
theorem test_decode_rows :
    nextIs (exec .decodeRelayIdle halted) (fun t => t.report == .mode .relayIdle) = true ∧
    nextIs (exec .decodeForwardA halted) (fun t => t.report == .mode .forwardA) = true ∧
    nextIs (exec .decodeForwardB halted) (fun t => t.report == .mode .forwardB) = true ∧
    nextIs (exec .decodeForwardBoth halted) (fun t => t.report == .mode .forwardBoth) = true := by decide
/-- E7. -/
theorem test_color_rows :
    nextIs (exec .acceptColorBlue halted) (fun t => t.report == .color .blue) = true ∧
    nextIs (exec .acceptColorRed halted) (fun t => t.report == .color .red) = true ∧
    nextIs (exec .acceptColorGreen halted) (fun t => t.report == .color .green) = true ∧
    nextIs (exec .acceptColorWhite halted) (fun t => t.report == .color .white) = true ∧
    nextIs (exec (.acceptColorAmber 0x04) halted) (fun t => t.report == .color .amber) = true := by decide
/-- S7. -/
theorem test_mapServo : nextIs (exec (.mapServo 0x7F) halted) (fun t => t.report == .compare 5905) = true := by decide
/-- S9. -/
theorem test_mapServo_high : nextIs (exec (.mapServo 0xFE) halted) (fun t => t.report == .compare 7810) = true := by decide
/-- Z3 and R131. -/
theorem test_halted_faults : faultIs (stepOp .tick halted) .clockCalibrationMissing = true := by decide
/-- Z5, in HALTED too (P5 line 4). -/
theorem test_reserved_refused :
    refusalIs (step (asked halted (.reserved true))) .reservedSelector = true ∧
    refusalIs (step (asked (node 3 true 0 false) (.reserved false))) .reservedSelector = true := by decide
/-- Z9. -/
theorem test_txIssue_held : nextIs (stepOp .txIssue (node 3 false 0 false)) (fun t => t.report == .noStep) = true := by decide

/-! ## Witnesses of the obligations' hypotheses -/

theorem witness_DecodeEncodeAgree :
    Instr.wellFormed (.acceptColorAmber 0x00) = true ∧ Instr.wellFormed (.acceptColorAmber 0x04) = true ∧
    Instr.wellFormed (.acceptColorAmber 0xFE) = true ∧ Instr.wellFormed (.rxArrive 0xFF) = true := by decide
theorem witness_DecodedCodeIsTheBytesRead : stepWord 0x3F [0x42, 0x07] = .ok (.rxArrive 0x42) [0x07] := by decide
theorem witness_SelectorTableIsExact :
    (0xBF : Byte).toNat / 32 ≤ 5 ∧ ¬ (0xC0 : Byte).toNat / 32 ≤ 5 ∧ decodeSelector 0xBF = some .pollFwdBoth := by decide
theorem witness_ReservedWordsAreRefused : 6 ≤ (0xC0 : Byte).toNat / 32 ∧ 6 ≤ (0xFF : Byte).toNat / 32 := by decide
theorem witness_SentinelDecode :
    ((0x00 : Byte) ≠ 0x01 ∧ (0x00 : Byte) ≠ 0x02 ∧ (0x00 : Byte) ≠ 0x03 ∧ (0x00 : Byte) ≠ 0xFF) ∧
    ((0xFE : Byte) ≠ 0x01 ∧ (0xFE : Byte) ≠ 0x02 ∧ (0xFE : Byte) ≠ 0x03 ∧ (0xFE : Byte) ≠ 0xFF) ∧
    (waiting 0xFF).phase = .run ∧ (waiting 0xFF).fwdWait = some 0xFF := by decide
/-- A listed request that decodes, one that is rejected, and an empty agenda. -/
theorem witness_StepRunsTheDecodedInstruction :
    decode (fetch (nextRequest (asked (pending true 1) (.op .rxService))) (takeRequest (asked (pending true 1) (.op .rxService))))
      = .ok .rxAccept [] ∧
    decode (fetch (nextRequest (asked halted (.reserved true))) (takeRequest (asked halted (.reserved true))))
      = .reject .reservedSelector ∧
    (asked halted (.reserved true)).agenda = .reserved true :: [] ∧ State.reset.agenda = [] := by decide
/-- Both ends of the period, and a table word for each count row. -/
theorem witness_PlacedWordRunsNext :
    (2 ≤ (node 2 true 0 false).params.linkPeriod ∧ (node 2 true 0 false).params.linkPeriod ≤ 65536) ∧
    (2 ≤ (node 65536 true 0 false).params.linkPeriod ∧ (node 65536 true 0 false).params.linkPeriod ≤ 65536) ∧
    decodeTableWord 8 0x40 = some .tickCount ∧ decodeTableWord 8 0x48 = some .tickWrap ∧
    decodeTableWord 16 0x4230 = some (.rxArrive 0x42) ∧ decodeTableWord 2 0b10 = some .decodeForwardB := by decide
theorem witness_EnabledOperationsAreTaken :
    Enabled .rxService (pending true 1) = true ∧
    (Enabled .txIssue (pending true 1) = false ∧ (pending true 1).phase = .run) ∧
    (Enabled .tick halted = false ∧ halted.phase = .halted) := by decide
/-- Both sides of the equivalence, and a wait that holds the pending byte back while an operation is taken. -/
theorem witness_RxServiceEnabledExactly :
    ((pending true 1).phase = .run ∧ (pending true 1).rxPending = true ∧ (pending true 1).fwdWait = none) ∧
    Enabled .rxService (pending true 1) = true ∧ Enabled .rxService (waiting 1) = false ∧
    (({ waiting 1 with rxPending := true }).rxPending = true ∧ ({ waiting 1 with rxPending := true }).fwdWait ≠ none ∧
      (∀ ok, Op.txIssue ≠ .reset ok)) ∧
    nextIs (stepOp .txIssue { waiting 1 with rxPending := true }) (fun t => t.rxPending && t.fwdWait == none) = true := by decide
theorem witness_NoInstructionTrapsInRun :
    State.reset.phase = .run ∧ faultIs (exec .tickWrap halted) .clockCalibrationMissing = true := by decide
theorem witness_StepRefusesOnlyReservedWords :
    nextRequest (asked halted (.reserved true)) = .reserved true ∧
    refusalIs (step (asked halted (.reserved true))) .reservedSelector = true := by decide
theorem witness_RunningNodeAlwaysHasAStep :
    State.reset.phase = .run ∧ (waiting 0).fwdWait ≠ none ∧ (waiting 0).phase = .run ∧ State.reset.fwdWait = none := by decide
theorem witness_HaltedBootNeedsReset : ∀ ok, Op.poll true true ≠ .reset ok := by decide
theorem witness_RxArriveResult : (pending true 1).phase = .run := by decide
/-- From 0 under the least period that counts, and one below the top under the greatest. -/
theorem witness_TickCountResult :
    ((node 2 true 0 false).phase = .run ∧ (node 2 true 0 false).linkCnt.toNat + 1 ≠ (node 2 true 0 false).params.linkPeriod ∧
      (node 2 true 0 false).linkCnt.toNat < (node 2 true 0 false).params.linkPeriod) ∧
    ((node 65536 true 65534 false).phase = .run ∧
      (node 65536 true 65534 false).linkCnt.toNat + 1 ≠ (node 65536 true 65534 false).params.linkPeriod ∧
      (node 65536 true 65534 false).linkCnt.toNat < (node 65536 true 65534 false).params.linkPeriod ∧
      (node 65536 true 65534 false).params.linkPeriod ≤ 65536) := by decide
theorem witness_TickWrapResult :
    ((node 1 true 0 false).phase = .run ∧ (node 1 true 0 false).linkCnt.toNat + 1 = (node 1 true 0 false).params.linkPeriod) ∧
    ((node 65536 true 65535 true).phase = .run ∧
      (node 65536 true 65535 true).linkCnt.toNat + 1 = (node 65536 true 65535 true).params.linkPeriod) := by decide
theorem witness_RxAcceptResult :
    (pending true 0xFF).phase = .run ∧ (pending true 0xFF).rxPending = true ∧ (pending true 0xFF).fwdWait = none ∧
    (pending true 0xFF).isFirst = true := by decide
theorem witness_RxForwardResult :
    (pending false 0xFF).phase = .run ∧ (pending false 0xFF).rxPending = true ∧ (pending false 0xFF).fwdWait = none ∧
    (pending false 0xFF).isFirst = false := by decide
theorem witness_TxIssueResult : (waiting 0xFF).phase = .run ∧ (waiting 0xFF).fwdWait = some 0xFF := by decide
/-- A service that is not enabled, one that accepts, one that forwards. -/
theorem witness_RxServiceDecides :
    (¬((waiting 1).phase = .run ∧ (waiting 1).rxPending = true ∧ (waiting 1).fwdWait = none) ∧
      Enabled .rxService (waiting 1) = false) ∧
    ((pending true 1).phase = .run ∧ (pending true 1).rxPending = true ∧ (pending true 1).fwdWait = none ∧
      (pending true 1).isFirst = true) ∧
    ((pending false 1).phase = .run ∧ (pending false 1).rxPending = true ∧ (pending false 1).fwdWait = none ∧
      (pending false 1).isFirst = false) := by decide
theorem witness_PollIdleHitResult :
    (node 3 false 0 true).phase = .run ∧ (node 3 false 0 true).fwdWait = none ∧ (node 3 false 0 true).idleLatch = true := by decide
theorem witness_PollIdleMissResult :
    (node 3 false 0 false).phase = .run ∧ (node 3 false 0 false).fwdWait = none ∧
    (node 3 false 0 false).idleLatch = false := by decide
theorem witness_PollForwardResults : (node 3 false 0 true).phase = .run ∧ (node 3 false 0 true).fwdWait = none := by decide
theorem witness_EveryPollMirrorsThePins : State.reset.phase = .run ∧ State.reset.fwdWait = none := by decide
theorem witness_MapServoLaws :
    (0xFE : Byte).toNat < (0xFF : Byte).toNat ∧ (0xFF : Byte).toNat = (0xFE : Byte).toNat + 1 ∧
    (0x01 : Byte).toNat = (0x00 : Byte).toNat + 1 ∧ mapServo 0xFF = mapServo 0xFF := by decide
theorem witness_ColorRows :
    Instr.wellFormed (.acceptColorAmber 0x00) = true ∧ Instr.wellFormed (.acceptColorAmber 0xFE) = true := by decide
theorem witness_CheckIdleIsConsumeOnce :
    (node 3 false 0 false).idleLatch = false ∧
    ((node 3 false 0 true).phase = .run ∧ (node 3 false 0 true).fwdWait = none ∧
      nextIs (stepOp (.poll false false) (node 3 false 0 true)) (fun _ => true) = true) ∧
    nextIs (stepOp (.poll false true) (node 3 false 0 true)) (fun _ => true) = true := by decide
/-- A clear latch, and a tick that does not complete the period: far from it, and at `link_cnt + 2 = LINK_PERIOD`, where the
next tick does (T2, T3). -/
theorem witness_CheckIdleIsConsumeOnce_clear :
    ((node 4 false 2 false).linkCnt.toNat + 2 = (node 4 false 2 false).params.linkPeriod ∧
      (node 4 false 2 false).idleLatch = false ∧
      ¬(Op.tick = .tick ∧ (node 4 false 2 false).linkCnt.toNat + 1 = (node 4 false 2 false).params.linkPeriod) ∧
      nextIs (stepOp .tick (node 4 false 2 false)) (fun t => !t.idleLatch && t.linkCnt == 3) = true ∧
      nextIs (stepOps [.tick, .tick] (node 4 false 2 false)) (fun t => t.idleLatch && t.linkCnt == 0) = true) ∧
    ¬(Op.tick = .tick ∧ (node 3 false 0 false).linkCnt.toNat + 1 = (node 3 false 0 false).params.linkPeriod) ∧
    nextIs (stepOp .tick (node 3 false 0 false)) (fun t => !t.idleLatch && t.linkCnt == 1) = true := by decide
theorem witness_LinkResetIsIdempotent :
    (node 3 false 5 false).idleLatch = false ∧ ({ node 3 false 5 true with params := par 3 true false }).params.rxClearsLatch = true := by
  decide
/-- The least and the greatest period, the counter at its top. -/
theorem witness_TicksDetectIdle :
    ((node 1 false 0 false).phase = .run ∧ (node 1 false 0 false).params.wf ∧ (node 1 false 0 false).counterBelowPeriod) ∧
    ((node 65536 false 65535 false).phase = .run ∧ (node 65536 false 65535 false).params.wf ∧
      (node 65536 false 65535 false).counterBelowPeriod) := by decide
/-- A tick that completes the period of 4, and one that does not (T13). -/
theorem witness_WrapOnMultiplesOfThePeriod :
    ((node 4 false 0 false).phase = .run ∧ (node 4 false 0 false).params.wf ∧ (node 4 false 0 false).linkCnt = 0) ∧
    nextIs (stepOps (List.replicate 3 .tick) (node 4 false 0 false)) (fun t => t.linkCnt == 3) = true ∧
    nextIs (stepOps (List.replicate 4 .tick) (node 4 false 0 false)) (fun t => t.linkCnt == 0) = true := by decide
theorem witness_FirstFlagWriters :
    nextIs (exec .rxAccept (pending true 1)) (fun t => (pending true 1).isFirst && !t.isFirst) = true ∧
    ((pending true 1).rxPending = true ∧ (pending true 1).fwdWait = none ∧ (node 3 false 0 true).fwdWait = none ∧
      (node 3 false 0 true).idleLatch = true) ∧
    nextIs (exec .pollIdleHit (node 3 false 0 true)) (fun t => t.isFirst) = true ∧
    nextIs (exec (.reset true) (node 3 false 0 true)) (fun t => t.isFirst) = true := by decide
theorem witness_ReceiveSideWriters :
    nextIs (exec (.rxArrive 7) (node 3 false 0 true)) (fun t => t.rxBuf != (node 3 false 0 true).rxBuf && t.rxPending) = true ∧
    nextIs (exec .rxAccept (pending true 1)) (fun t => !t.rxPending) = true ∧
    nextIs (exec .rxForward (pending false 1)) (fun t => !t.rxPending && t.fwdWait == some 1) = true ∧
    nextIs (exec .txIssue (waiting 1)) (fun t => t.fwdWait == none) = true ∧
    nextIs (exec (.reset false) (waiting 1)) (fun t => t.fwdWait == none) = true := by decide
theorem witness_MonitorWriters :
    nextIs (exec .tickWrap (node 1 false 0 false)) (fun t => t.idleLatch) = true ∧
    nextIs (exec .pollIdleHit (node 1 false 0 true)) (fun t => !t.idleLatch) = true ∧
    nextIs (exec .txIssue { waiting 3 with idleLatch := true, params := par 3 true false }) (fun t => !t.idleLatch) = true ∧
    nextIs (exec .tickCount (node 3 false 0 true)) (fun t => t.linkCnt == 1) = true := by decide
theorem witness_OutputWriters :
    (∀ ok, Instr.rxAccept ≠ .reset ok) ∧
    nextIs (exec .rxAccept (pending true 1)) (fun t => t.storedByte != 0 && t.stripColor != none) = true ∧
    nextIs (exec .pollIdleHit (node 3 false 0 true)) (fun t => t.statusLed) = true ∧
    nextIs (exec .pollFwdBoth (node 3 false 0 true)) (fun t => t.modeOut != 0) = true ∧
    nextIs (exec .tickCount (node 3 false 0 true)) (fun _ => true) = true := by decide
theorem witness_ConfigurationNeverChanges :
    nextIs (exec .tickCount (node 3 false 0 true)) (fun _ => true) = true ∧
    nextIs (step (asked (node 3 false 0 true) (.op .tick))) (fun _ => true) = true := by decide
theorem witness_HistoryOnlyGrows :
    nextIs (exec .txIssue (waiting 1)) (fun t => t.hist.length == 2) = true ∧
    nextIs (step (asked (waiting 1) (.op .txIssue))) (fun t => t.hist.length == 2) = true := by decide
/-- A node that accepted byte 1 and now has byte 2 waiting for the transmitter. -/
def relaying : State := { waiting 2 with storedByte := 1, servoCmp := 4015, stripColor := some .blue }
/-- Before the strip is driven. -/
theorem witness_StepKeepsInvariant_fresh :
    (asked State.reset (.op .tick)).Inv ∧ nextIs (step (asked State.reset (.op .tick))) (fun _ => true) = true := by
  refine ⟨⟨?_, ?_, ?_, ?_, ?_, ?_, ?_⟩, ?_⟩ <;> decide
/-- After an accept, with a byte waiting. -/
theorem witness_StepKeepsInvariant_relaying :
    (asked relaying (.op .txIssue)).Inv ∧
    nextIs (step (asked relaying (.op .txIssue))) (fun t => t.stripColor == some .cyan) = true := by
  refine ⟨⟨?_, ?_, ?_, ?_, ?_, ?_, ?_⟩, ?_⟩ <;> decide
/-- Halted. -/
theorem witness_StepKeepsInvariant_halted :
    (asked halted (.op (.reset true))).Inv ∧ nextIs (step (asked halted (.op (.reset true)))) (fun _ => true) = true := by
  refine ⟨⟨?_, ?_, ?_, ?_, ?_, ?_, ?_⟩, ?_⟩ <;> decide
theorem witness_ResetEstablishesInvariant :
    (node 65536 false 0 true).params.wf ∧ nextIs (exec (.reset false) (node 65536 false 0 true)) (fun _ => true) = true := by decide
theorem witness_ServoWritesAreLegal :
    nextIs (step (asked (pending true 0xFF) (.op .rxService))) (fun t => t.hist.contains (.servoWrite 7825)) = true ∧
    (asked (pending true 0xFF) (.op .rxService)).histLegal := by decide
theorem witness_HandlerExcludesPollAndService :
    (waiting 1).phase = .run ∧ (waiting 1).fwdWait ≠ none ∧ interruptEnable (waiting 1) = false ∧
    interruptEnable State.reset = true := by decide
theorem witness_DeferredRequestsAreKept :
    (waiting 1).phase = .run ∧ (waiting 1).fwdWait ≠ none ∧
    nextIs (stepOp .tick { waiting 1 with idleLatch := true }) (fun t => t.idleLatch) = true ∧
    nextIs (stepOp (.rxArrive 2) { waiting 1 with rxPending := true }) (fun t => t.rxPending) = true := by decide
/-- One operation of each kind, taken. -/
theorem witness_ControlFlowTable :
    nextIs (stepOp .rxService (pending true 1)) (fun t => t.report == .taken) = true ∧
    nextIs (stepOp .rxService (pending false 1)) (fun t => t.report == .taken) = true ∧
    nextIs (stepOp .txIssue (waiting 1)) (fun t => t.report == .taken) = true ∧
    nextIs (stepOp (.poll false false) (node 3 false 0 true)) (fun t => t.report == .taken && t.isFirst) = true ∧
    nextIs (stepOp (.poll false true) (node 3 false 0 true)) (fun t => t.report == .taken && !t.isFirst) = true ∧
    nextIs (stepOp .tick (waiting 1)) (fun t => t.report == .taken) = true ∧
    nextIs (stepOp (.reset false) (waiting 1)) (fun t => t.report == .taken) = true := by decide
theorem witness_WaitingByteIsStable :
    (waiting 1).fwdWait = some 1 ∧ (∀ ok, Op.tick ≠ .reset ok) ∧ (∀ ok, Op.txIssue ≠ .reset ok) ∧
    nextIs (stepOp .tick (waiting 1)) (fun _ => true) = true ∧
    nextIs (stepOp .txIssue (waiting 1)) (fun _ => true) = true := by decide
/-- A counter one below its period, a node with no byte waiting in each relay state, and one with a byte waiting. -/
theorem witness_PseudoOperationsExpand :
    ((node 4 false 3 false).phase = .run ∧ (node 4 false 3 false).params.wf ∧ (node 4 false 3 false).counterBelowPeriod) ∧
    ((node 65536 false 0 false).params.wf ∧ (node 65536 false 0 false).counterBelowPeriod) ∧
    ((node 4 true 0 false).fwdWait = none ∧ (node 4 true 0 false).isFirst = true ∧
      relayState (node 4 true 0 false) = .awaitingFirstByte) ∧
    ((node 4 false 0 false).isFirst = false ∧ relayState (node 4 false 0 false) = .midTransfer ∧
      inMainLoop (node 4 false 0 false) = true) ∧
    ((waiting 7).phase = .run ∧ (waiting 7).fwdWait ≠ none ∧ inMainLoop (waiting 7) = false) := by decide
/-- What may come between the two arrivals, up to a reset. -/
theorem witness_OverrunLosesTheFirstByte :
    (∀ o ∈ [Op.tick, Op.poll false false, Op.rxArrive 5, Op.reset true, Op.txIssue], o ≠ .rxService) := by decide
theorem witness_ForwardedByteIsUnmodified :
    (node 3 false 2 true).phase = .run ∧ (node 3 false 2 true).isFirst = false ∧ (node 3 false 2 true).fwdWait = none := by decide
/-- Two nodes that differ in the counter, the latch, the status LED, the mode-out pins and the history. -/
theorem witness_ReceiveDecisionIgnoresModeAndTimer :
    ∃ s s' : State, s.phase = s'.phase ∧ s.isFirst = s'.isFirst ∧ s.rxBuf = s'.rxBuf ∧ s.rxPending = s'.rxPending ∧
      s.fwdWait = s'.fwdWait ∧ s ≠ s' ∧ nextIs (stepOp .rxService s) (fun t => t.report == .taken) = true :=
  ⟨pending true 9, { pending true 9 with
    linkCnt := 2, idleLatch := true, statusLed := true, modeOut := 3, hist := [.tx 1] }, by decide⟩
theorem witness_NoRearmOutsideRelayIdle :
    (node 1 false 0 false).isFirst = false ∧
    (∀ o ∈ [Op.tick, Op.poll false true, Op.rxArrive 5, Op.rxService],
      o ≠ Op.poll false false ∧ (o ≠ .reset true ∧ o ≠ .reset false)) ∧
    nextIs (stepOps [.tick, .poll false true, .rxArrive 5, .rxService] (node 1 false 0 false))
      (fun t => t.fwdWait == some 5) = true := by decide
/-- Under both values of RX_CLEARS_LATCH. -/
theorem witness_StaleLatchAcceptsTwice :
    ((node 3 true 0 true).phase = .run ∧ (node 3 true 0 true).isFirst = true ∧ (node 3 true 0 true).idleLatch = true ∧
      (node 3 true 0 true).fwdWait = none ∧ (node 3 true 0 true).params.rxClearsLatch = false) ∧
    ({ node 3 true 0 true with params := par 3 true false }).params.rxClearsLatch = true := by decide

/-- A schedule that keeps taking turns: transmit, service, poll. -/
def turns (n : Nat) : Op :=
  match n % 3 with
  | 0 => .txIssue
  | 1 => .rxService
  | _ => .poll false false

/-- A fair run in which a byte waits at its start. -/
theorem witness_FairRunTransmitsWaitingByte :
    FairRun turns (waiting 0x42) ∧ (trace turns (waiting 0x42) 0).phase = .run ∧
    (trace turns (waiting 0x42) 0).fwdWait = some 0x42 := by
  have at_turn : ∀ n r, turns (3 * n + r) = turns r := fun n r => by
    unfold turns; rw [Nat.add_comm, Nat.add_mul_mod_self_left]
  refine ⟨⟨fun n _ => ⟨3 * n + 1, by omega, at_turn n 1⟩, fun n _ => ⟨3 * n + 2, false, false, by omega, at_turn n 2⟩,
    fun n _ => ⟨3 * n + 0, by omega, at_turn n 0⟩⟩, rfl, rfl⟩

/-- A chain of two nodes, the first with a byte waiting (P4 line 5). -/
def twoNodes : Chain :=
  [{ node := waiting 2, polled := false, line := [] }, { node := node 3 true 0 false, polled := false, line := [7] }]

/-- P4 line 6: a transmit reaches the wire, and no more. -/
theorem witness_ChainStepIsLocal :
    chainNextIs (chainStep twoNodes 0 .txIssue) (fun c => c.map ChainNode.line == [[], [7, 2]]) = true := by decide
/-- A step of the node before the wire, one of the node after it that delivers the oldest byte and not the one asked for (P4
line 7), one that does not deliver, an arrival at the head, and an arrival asked of an empty wire. -/
theorem witness_ChainWireIsFifo :
    (getElem? twoNodes 1).isSome = true ∧ (getElem? twoNodes 0).isSome = true ∧
    (getElem? twoNodes 1).map ChainNode.line = some (7 :: []) ∧ (1 : Nat) ≠ 0 ∧ (∀ b, Op.tick ≠ .rxArrive b) ∧
    chainNextIs (chainStep twoNodes 0 .txIssue) (fun c => c.map ChainNode.line == [[], [7, 2]]) = true ∧
    chainNextIs (chainStep twoNodes 1 (.rxArrive 0)) (fun c =>
      c.map ChainNode.line == [[], []] && c.map (fun n => n.node.rxBuf) == [0, 7]) = true ∧
    chainNextIs (chainStep twoNodes 1 .tick) (fun c => c.map ChainNode.line == [[], [7]]) = true := by decide
theorem witness_ChainWireIsFifo_arrivals :
    chainNextIs (chainStep twoNodes 0 (.rxArrive 9)) (fun c =>
      c.map ChainNode.line == [[], [7]] && c.map (fun n => n.node.rxBuf) == [9, 0]) = true ∧
    (getElem? (chainStart 2) 1).map ChainNode.line = some [] ∧
    chainNextIs (chainStep (chainStart 2) 1 (.rxArrive 9)) (fun c => c == chainStart 2) = true := by decide
/-- The nodes of a fresh chain take their reset draws from rows of their own (log entry 24). -/
theorem test_chain_draw_seeds : (chainStart 3).map (fun n => n.node.drawSeed) = [0, 1, 2] := by decide
/-- P4 lines 15 and 16, on a chain of three. -/
theorem witness_ModeRipplesDownTheChain :
    (∀ n ∈ chainStart 3, n.node.phase = .run ∧ n.node.fwdWait = none) ∧
    (chainStart 3).length = [(false, false), (true, false)].length + 1 ∧
    chainNextIs (pollRipple [(true, true), (false, false), (true, false)] 0 (chainStart 3))
      (fun c => c.map (fun n => n.node.modeOut) == [3, 3, 3]) = true := by decide

end Sys2Proof.Tests
end

section
/-! Proofs about the first-byte flag (10_state.md R16): what each named update does to it, what exec does to it, and the row
an RX_SERVICE selects by it. -/

namespace Sys2Proof.Machine

/-! ## The first-byte flag under the named updates -/

@[simp] theorem State.accept_isFirst (s : State) (b : Byte) : (s.accept b).isFirst = false := by
  simp [accept_eq]

@[simp] theorem State.finishForward_isFirst (s : State) (b : Byte) : (s.finishForward b).isFirst = s.isFirst := by
  simp [finishForward_eq]

theorem State.pollIdle_isFirst_of_latch {s : State} (h : s.idleLatch = true) : s.pollIdle.isFirst = true := by
  simp [pollIdle_hit s h]

theorem State.pollIdle_isFirst_of_no_latch {s : State} (h : s.idleLatch = false) : s.pollIdle.isFirst = s.isFirst := by
  simp [pollIdle_miss s h]

/-! ## The first-byte flag under exec -/

/-- The writers of the first-byte flag and the value each writes: every other row, and a row that has no step, keeps it. -/
theorem exec_isFirst_cases {i : Instr} {s t : State} (h : exec i s = .next t) :
    t.isFirst = s.isFirst ∨ (i = .rxAccept ∧ t.isFirst = false) ∨ (i = .pollIdleHit ∧ t.isFirst = true) ∨
      ∃ ok, i = .reset ok ∧ t.isFirst = true := by
  obtain ⟨ok, hi, rfl⟩ | ⟨r, rfl⟩ | ⟨-, row⟩ := exec_next_cases h
  · exact .inr (.inr (.inr ⟨ok, hi, by simp⟩))
  · exact .inl (by simp)
  · obtain ⟨b, -, rfl⟩ | ⟨-, -, rfl⟩ | ⟨-, -, rfl⟩ | ⟨hi, -, -, -, rfl⟩ | ⟨-, -, -, -, rfl⟩ | ⟨b, -, -, rfl⟩ |
      ⟨-, -, latch, rfl⟩ | ⟨hi, -, latch, rfl⟩ | ⟨-, -, rfl⟩ | ⟨-, -, rfl⟩ | ⟨-, -, rfl⟩ := row
    · exact .inl rfl
    · exact .inl rfl
    · exact .inl rfl
    · exact .inr (.inl ⟨hi, by simp⟩)
    · exact .inl (by simp)
    · exact .inl (by simp)
    · exact .inl (by simp [State.pollIdle_isFirst_of_no_latch latch])
    · exact .inr (.inr (.inl ⟨hi, by simp [State.pollIdle_isFirst_of_latch latch]⟩))
    all_goals exact .inl (by simp)

theorem exec_clears_isFirst {i : Instr} {s t : State} (h : exec i s = .next t) (before : s.isFirst = true)
    (after : t.isFirst = false) : i = .rxAccept := by
  obtain kept | ⟨hi, -⟩ | ⟨-, armed⟩ | ⟨_, -, armed⟩ := exec_isFirst_cases h
  · simp [before, after] at kept
  · exact hi
  all_goals simp [after] at armed

theorem exec_sets_isFirst {i : Instr} {s t : State} (h : exec i s = .next t) (before : s.isFirst = false)
    (after : t.isFirst = true) : i = .pollIdleHit ∨ ∃ ok, i = .reset ok := by
  obtain kept | ⟨-, cleared⟩ | ⟨hi, -⟩ | ⟨ok, hi, -⟩ := exec_isFirst_cases h
  · simp [before, after] at kept
  · simp [after] at cleared
  · exact .inl hi
  · exact .inr ⟨ok, hi⟩

/-- An RX_ACCEPT that is ready accepts: its condition excludes the other case, no step. -/
theorem exec_rxAccept_isFirst {s t : State} (pending : s.rxPending = true) (no_wait : s.fwdWait = none)
    (first : s.isFirst = true) (h : exec .rxAccept s = .next t) : t.isFirst = false := by
  have ready : (rxServiceReady s && flagF s) = true := by simp [rxServiceReady_iff, flagF, pending, no_wait, first]
  obtain ⟨-, ⟨-, rfl⟩ | ⟨not_ready, -⟩⟩ := whenReady_next h
  · simp
  · simp [ready] at not_ready

/-- A POLL_IDLE_HIT that is ready re-arms the flag. -/
theorem exec_pollIdleHit_isFirst {s t : State} (no_wait : s.fwdWait = none) (latch : s.idleLatch = true)
    (h : exec .pollIdleHit s = .next t) : t.isFirst = true := by
  have ready : (pollReady s && flagL s) = true := by simp [pollReady_iff, flagL, no_wait, latch]
  obtain ⟨-, ⟨-, rfl⟩ | ⟨not_ready, -⟩⟩ := whenReady_next h
  · simp [State.pollIdle_isFirst_of_latch latch]
  · simp [ready] at not_ready

theorem exec_reset_isFirst {ok : Bool} {s t : State} (h : exec (.reset ok) s = .next t) : t.isFirst = true := by
  cases h
  simp

/-! ## The row of an RX_SERVICE -/

/-- Within kind 011 the branch bit F alone selects the row: W, L and M are don't-care bits (30_encoding.md R56, R58). -/
theorem decodeSelector_rxService_word (f w l : Bool) :
    decodeSelector (0b011#3 ++ BitVec.ofBool f ++ BitVec.ofBool w ++ BitVec.ofBool l ++ 0b00#2) =
      some (if f then .rxAccept else .rxForward) := by
  cases f <;> cases w <;> cases l <;> decide

theorem decode_fetch_rxService (s : State) :
    decode (fetch (.op .rxService) s) = .ok (if s.isFirst = true then .rxAccept else .rxForward) [] := by
  have row : decodeSelector (selectorWord (kindOf .rxService) (modeFieldOf .rxService) s) =
      some (if s.isFirst then .rxAccept else .rxForward) := decodeSelector_rxService_word _ _ _
  simp only [decode, fetch, decodeStep, row]
  cases s.isFirst <;> rfl

theorem stepOp_rxService (s : State) :
    stepOp .rxService s = exec (if s.isFirst = true then .rxAccept else .rxForward) s := by
  simp only [stepOp, runRequest, decode_fetch_rxService]

/-- Settles O38: the writers by `exec_isFirst_cases`, the choice of the receive service by the branch bit of its word. -/
theorem firstFlagWriters : Obligations.FirstFlagWriters := by
  unfold Obligations.FirstFlagWriters
  exact ⟨fun _ _ _ h => ⟨exec_clears_isFirst h, exec_sets_isFirst h⟩,
    fun _ _ pending no_wait first h => exec_rxAccept_isFirst pending no_wait first h,
    fun _ _ no_wait latch h => exec_pollIdleHit_isFirst no_wait latch h,
    fun _ _ _ h => exec_reset_isFirst h, stepOp_rxService, rfl⟩

end Sys2Proof.Machine
end

section
/-! Proofs about the encodings of 30_encoding.md: which request a RESET row comes from (R55, R58), the servo values the block
writes (R48), the sentinel decode (R53) and the mode codes (R51). -/

namespace Sys2Proof.Machine

/-! ## The kind field of a selector word -/

/-- Every row of the selector table fixes all three bits of the kind field (30_encoding.md R58). -/
theorem decodeSelector_kind {w : Byte} {r : Selector} (h : decodeSelector w = some r) :
    w.extractLsb' 5 3 = r.pattern.extractLsb' 5 3 := by
  have masked : w &&& r.mask = r.pattern := by simpa [Selector.selects] using List.find?_some h
  have kind_fixed : r.mask.extractLsb' 5 3 = BitVec.allOnes 3 := by cases r <;> rfl
  rw [← masked, BitVec.extractLsb'_and, kind_fixed, BitVec.and_allOnes]

theorem selectorWord_kind (k : BitVec 3) (m : Pins) (s : State) : (selectorWord k m s).extractLsb' 5 3 = k := by
  ext i hi
  simp only [selectorWord, BitVec.getElem_extractLsb', BitVec.getLsbD_append]
  simp [Nat.add_comm 5, hi]

/-- Only a word of kind 000 selects the RESET row. -/
theorem decodeSelector_selectorWord_reset {k : BitVec 3} {m : Pins} {s : State}
    (h : decodeSelector (selectorWord k m s) = some .reset) : k = 0 := by
  rw [← selectorWord_kind k m s, decodeSelector_kind h]
  rfl

/-! ## Decoding a RESET -/

theorem decodeStep_reset {ok ok' : Bool} {w : Byte} {bs rest : List Byte}
    (h : decodeStep ok (w :: bs) = .ok (.reset ok') rest) : decodeSelector w = some .reset ∧ ok = ok' := by
  cases row : decodeSelector w with
  | none => simp [decodeStep, row] at h
  | some r =>
    cases r with
    | reset =>
      simp only [decodeStep, row, Decoded.ok.injEq, Instr.reset.injEq] at h
      exact ⟨rfl, h.1⟩
    | rxArrive => cases bs <;> simp [decodeStep, row] at h
    | _ => simp [decodeStep, row] at h

theorem decodeModeCode_ne_reset (w : Byte) (ok : Bool) : decodeModeCode w ≠ .reset ok := by
  unfold decodeModeCode
  split <;> simp

theorem decodeSentinel_ne_reset (b : Byte) (ok : Bool) : decodeSentinel b ≠ .reset ok := by
  unfold decodeSentinel
  split_ifs <;> simp

/-- A RESET is decoded from a request for that RESET and from no other. -/
theorem decode_fetch_reset {r : Request} {s : State} {ok : Bool} {rest : List Byte}
    (h : decode (fetch r s) = .ok (.reset ok) rest) : r = .op (.reset ok) := by
  have kind_zero {k : BitVec 3} {m : Pins} {ok' : Bool} {bs : List Byte}
      (h : decodeStep ok' (selectorWord k m s :: bs) = .ok (.reset ok) rest) : k = 0 :=
    decodeSelector_selectorWord_reset (decodeStep_reset h).1
  cases r with
  | op o =>
    cases o with
    | reset ok' =>
      obtain ⟨-, same_level⟩ := decodeStep_reset h
      rw [← same_level]
      rfl
    | rxArrive | tick | rxService | txIssue | poll => exact absurd (kind_zero h) (by simp [kindOf])
  | reserved k0 => exact absurd (kind_zero h) (by cases k0 <;> decide)
  | decodeMode p0 p1 => exact absurd (Decoded.ok.inj h).1 (decodeModeCode_ne_reset _ ok)
  | colorOf b => exact absurd (Decoded.ok.inj h).1 (decodeSentinel_ne_reset b ok)
  | mapServo b => cases h

/-! ## A step is exec of its decoded instruction -/

theorem runRequest_next {r : Request} {s t : State} (h : runRequest r s = .next t) :
    ∃ i rest, decode (fetch r s) = .ok i rest ∧ exec i s = .next t := by
  unfold runRequest at h
  split at h
  · exact ⟨_, _, ‹_›, h⟩
  · cases h

@[simp] theorem takeRequest_hist (s : State) : (takeRequest s).hist = s.hist := by
  rw [takeRequest_eq]

@[simp] theorem takeRequest_servoCmp (s : State) : (takeRequest s).servoCmp = s.servoCmp := by
  rw [takeRequest_eq]

/-! ## The values the servo mapper gives -/

/-- The range and the residue of R48, for every byte. -/
theorem mapServo_legal (b : Byte) :
    4000 ≤ (mapServo b).toNat ∧ (mapServo b).toNat ≤ 7825 ∧ (mapServo b).toNat % 15 = 10 := by
  have byte_lt := b.isLt
  rw [mapServo_toNat]
  omega

theorem legalEvent_servoWrite_mapServo (b : Byte) : legalEvent (.servoWrite (mapServo b)) = true := by
  simp [legalEvent, mapServo_legal]

/-! ## The history and the compare register under the named updates -/

@[simp] theorem State.accept_hist (s : State) (b : Byte) :
    (s.accept b).hist = s.hist ++ [.servoWrite (mapServo b), .strip (colorOf b)] := by
  simp [accept_eq]

@[simp] theorem State.accept_servoCmp (s : State) (b : Byte) : (s.accept b).servoCmp = mapServo b := by
  simp [accept_eq]

@[simp] theorem State.finishForward_hist (s : State) (b : Byte) :
    (s.finishForward b).hist = s.hist ++ [.tx b, .strip .cyan] := by
  simp [finishForward_eq]

@[simp] theorem State.finishForward_servoCmp (s : State) (b : Byte) : (s.finishForward b).servoCmp = s.servoCmp := by
  simp [finishForward_eq]

@[simp] theorem State.finishForward_stripColor (s : State) (b : Byte) : (s.finishForward b).stripColor = some .cyan := by
  simp [finishForward_eq]

/-- A poll in mode RELAY_IDLE, hit or miss, emits the mode-out pins and then the level it leaves on the status LED. -/
@[simp] theorem State.pollIdle_hist (s : State) :
    s.pollIdle.hist = s.hist ++ [.modeOut 0, .status s.pollIdle.statusLed] := by
  cases latch : s.idleLatch with
  | true => simp [pollIdle_hit s latch]
  | false => simp [pollIdle_miss s latch]

@[simp] theorem State.pollIdle_servoCmp (s : State) : s.pollIdle.servoCmp = s.servoCmp := by
  cases latch : s.idleLatch with
  | true => simp [pollIdle_hit s latch]
  | false => simp [pollIdle_miss s latch]

/-! ## The history and the compare register under exec -/

/-- The rows that emit, each with its events; every other row, and a row that has no step, keeps the history. -/
theorem exec_hist_cases {i : Instr} {s t : State} (h : exec i s = .next t) :
    t.hist = s.hist ∨
    (i = .rxAccept ∧ t.hist = s.hist ++ [.servoWrite (mapServo s.rxBuf), .strip (colorOf s.rxBuf)]) ∨
    (∃ b, i = .txIssue ∧ t.hist = s.hist ++ [.tx b, .strip .cyan]) ∨
    ((i = .pollIdleMiss ∨ i = .pollIdleHit) ∧ t.hist = s.hist ++ [.modeOut 0, .status t.statusLed]) ∨
    ((i = .pollFwdA ∨ i = .pollFwdB ∨ i = .pollFwdBoth) ∧ t.hist = s.hist ++ [.modeOut t.modeOut]) := by
  obtain ⟨ok, -, rfl⟩ | ⟨r, rfl⟩ | ⟨-, row⟩ := exec_next_cases h
  · exact .inl (by simp)
  · exact .inl (by simp)
  · obtain ⟨b, -, rfl⟩ | ⟨-, -, rfl⟩ | ⟨-, -, rfl⟩ | ⟨hi, -, -, -, rfl⟩ | ⟨-, -, -, -, rfl⟩ | ⟨b, hi, -, rfl⟩ |
      ⟨hi, -, -, rfl⟩ | ⟨hi, -, -, rfl⟩ | ⟨hi, -, rfl⟩ | ⟨hi, -, rfl⟩ | ⟨hi, -, rfl⟩ := row
    · exact .inl rfl
    · exact .inl rfl
    · exact .inl rfl
    · exact .inr (.inl ⟨hi, by simp⟩)
    · exact .inl (by simp)
    · exact .inr (.inr (.inl ⟨b, hi, by simp⟩))
    · exact .inr (.inr (.inr (.inl ⟨.inl hi, by simp⟩)))
    · exact .inr (.inr (.inr (.inl ⟨.inr hi, by simp⟩)))
    all_goals exact .inr (.inr (.inr (.inr ⟨by simp [hi], by simp⟩)))

/-- What exec appends to the history holds no servo value but the mapper's. -/
theorem exec_appends_mapped_servo_writes {i : Instr} {s t : State} (h : exec i s = .next t) :
    ∃ es, t.hist = s.hist ++ es ∧ ∀ v, .servoWrite v ∈ es → ∃ b, v = mapServo b := by
  obtain kept | ⟨-, emitted⟩ | ⟨b, -, emitted⟩ | ⟨-, emitted⟩ | ⟨-, emitted⟩ := exec_hist_cases h
  · exact ⟨[], by simp [kept], by simp⟩
  · exact ⟨_, emitted, fun v mem => ⟨s.rxBuf, by simpa using mem⟩⟩
  all_goals exact ⟨_, emitted, by simp⟩

/-- The writers of the compare register: RX_ACCEPT, with the buffered byte's value, and RESET, with its draw. -/
theorem exec_servoCmp_cases {i : Instr} {s t : State} (h : exec i s = .next t) :
    t.servoCmp = s.servoCmp ∨ (i = .rxAccept ∧ t.servoCmp = mapServo s.rxBuf) ∨
      ∃ ok, i = .reset ok ∧ t.servoCmp = Config.resetServoCmp s.drawSeed s.draws := by
  obtain ⟨ok, hi, rfl⟩ | ⟨r, rfl⟩ | ⟨-, row⟩ := exec_next_cases h
  · exact .inr (.inr ⟨ok, hi, by simp⟩)
  · exact .inl (by simp)
  · obtain ⟨b, -, rfl⟩ | ⟨-, -, rfl⟩ | ⟨-, -, rfl⟩ | ⟨hi, -, -, -, rfl⟩ | ⟨-, -, -, -, rfl⟩ | ⟨b, -, -, rfl⟩ |
      ⟨-, -, -, rfl⟩ | ⟨-, -, -, rfl⟩ | ⟨-, -, rfl⟩ | ⟨-, -, rfl⟩ | ⟨-, -, rfl⟩ := row
    · exact .inl rfl
    · exact .inl rfl
    · exact .inl rfl
    · exact .inr (.inl ⟨hi, by simp⟩)
    all_goals exact .inl (by simp)

/-! ## The history and the compare register under a step -/

theorem step_appends_mapped_servo_writes {s t : State} (h : step s = .next t) :
    ∃ es, t.hist = s.hist ++ es ∧ ∀ v, .servoWrite v ∈ es → ∃ b, v = mapServo b := by
  obtain ⟨i, _, -, ran⟩ := runRequest_next h
  simpa using exec_appends_mapped_servo_writes ran

theorem step_servoCmp_cases {s t : State} (h : step s = .next t) :
    t.servoCmp = s.servoCmp ∨ (∃ b, t.servoCmp = mapServo b) ∨ ∃ ok, nextRequest s = .op (.reset ok) := by
  obtain ⟨i, rest, decoded, ran⟩ := runRequest_next h
  obtain kept | ⟨-, mapped⟩ | ⟨ok, rfl, -⟩ := exec_servoCmp_cases ran
  · exact .inl (by simpa using kept)
  · exact .inr (.inl ⟨_, mapped⟩)
  · exact .inr (.inr ⟨ok, decode_fetch_reset decoded⟩)

theorem histLegal_of_appended {s t : State} {es : List Event} (appended : t.hist = s.hist ++ es)
    (mapped : ∀ v, .servoWrite v ∈ es → ∃ b, v = mapServo b) (before : s.histLegal) : t.histLegal := by
  have new_legal : es.all legalEvent = true := by
    refine List.all_eq_true.2 fun e mem => ?_
    cases e with
    | servoWrite v =>
      obtain ⟨b, rfl⟩ := mapped v mem
      exact legalEvent_servoWrite_mapServo b
    | strip | tx | modeOut | status => rfl
  simp [State.histLegal, appended, before, new_legal]

/-- Settles O46: the only servo write of a step is RX_ACCEPT's, of the mapper's value, and only a RESET draws. -/
theorem servoWritesAreLegal : Obligations.ServoWritesAreLegal := by
  unfold Obligations.ServoWritesAreLegal
  intro s t h
  have value (b : Byte) : (mapServo b).toNat = 4000 + 15 * b.toNat := by rw [mapServo_toNat]; omega
  obtain ⟨es, appended, mapped⟩ := step_appends_mapped_servo_writes h
  refine ⟨⟨es, appended, fun v mem => ?_⟩, histLegal_of_appended appended mapped, ?_⟩
  · obtain ⟨b, rfl⟩ := mapped v mem
    exact ⟨⟨b, value b⟩, mapServo_legal b⟩
  · obtain kept | ⟨b, written⟩ | reset := step_servoCmp_cases h
    · exact .inl kept
    · exact .inr (.inl ⟨b, by rw [written, value]⟩)
    · exact .inr (.inr reset)

/-! ## The sentinel decode -/

theorem decodeSentinel_default {b : Byte} (not_blue : b ≠ 0x01) (not_red : b ≠ 0x02) (not_green : b ≠ 0x03)
    (not_white : b ≠ 0xFF) : decodeSentinel b = .acceptColorAmber b := by
  rw [decodeSentinel, if_neg not_blue, if_neg not_red, if_neg not_green, if_neg not_white]

/-- A TX_ISSUE in RUN with a byte waiting is always taken. -/
theorem exec_txIssue_waiting {s : State} {b : Byte} (running : s.phase = .run) (waiting : s.fwdWait = some b) :
    exec .txIssue s = .next ((s.finishForward b).reporting .taken) := by
  have ready : txIssueReady s = true := (txIssueReady_iff s).2 ⟨b, waiting⟩
  simp [exec, execTxIssue, whenReady_run running, ready, waiting, taken]

/-- Settles O6: the sentinel rows by their own byte, the default row by `decodeSentinel_default`, cyan by the forward
branch's strip write. -/
theorem sentinelDecode : Obligations.SentinelDecode := by
  unfold Obligations.SentinelDecode
  refine ⟨fun _ _ => rfl, fun _ _ => rfl, fun _ _ => rfl, fun _ _ => rfl, ?_, ?_⟩
  · intro ok rest b not_blue not_red not_green not_white
    simp only [decode, decodeSentinel_default not_blue not_red not_green not_white]
  · intro b s running waiting
    exact ⟨_, exec_txIssue_waiting running waiting, by simp⟩

/-! ## The mode codes -/

theorem modeCode_decodeMode (p0 p1 : Bool) : modeCode (decodeMode p0 p1) = pins p0 p1 := by
  cases p0 <;> cases p1 <;> decide

/-- Pin 0 is the more significant bit of a pin pair, pin 1 the less significant (30_encoding.md R50). -/
theorem pins_getLsbD (p0 p1 : Bool) : (pins p0 p1).getLsbD 1 = p0 ∧ (pins p0 p1).getLsbD 0 = p1 := by
  cases p0 <;> cases p1 <;> decide

/-- Settles O5: each code and each pin pair by its row, the bits by `pins_getLsbD`. -/
theorem modeCodeTable : Obligations.ModeCodeTable := by
  unfold Obligations.ModeCodeTable
  exact ⟨fun _ => rfl, fun _ => rfl, fun _ => rfl, fun _ => rfl, rfl, rfl, rfl, rfl, modeCode_decodeMode, pins_getLsbD⟩

end Sys2Proof.Machine
end

section
/-! Proofs about the receive service's enabling condition (40_step_model.md R66): when it has a step, what an enabled one
does to the pending request, and which operations can clear a request at all. -/

namespace Sys2Proof.Machine

/-! ## The pending request under the named updates -/

@[simp] theorem State.accept_rxPending (s : State) (b : Byte) : (s.accept b).rxPending = s.rxPending := by
  simp [accept_eq]

@[simp] theorem State.finishForward_rxPending (s : State) (b : Byte) :
    (s.finishForward b).rxPending = s.rxPending := by
  simp [finishForward_eq]

@[simp] theorem State.pollIdle_rxPending (s : State) : s.pollIdle.rxPending = s.rxPending := by
  cases latch : s.idleLatch with
  | true => simp [pollIdle_hit s latch]
  | false => simp [pollIdle_miss s latch]

/-! ## The pending request under exec -/

/-- The writers of the pending request and the value each writes: the two service rows clear it, and only with no byte
waiting; every other row, and a row that has no step, keeps it. -/
theorem exec_rxPending_cases {i : Instr} {s t : State} (h : exec i s = .next t) :
    t.rxPending = s.rxPending ∨ (∃ b, i = .rxArrive b ∧ t.rxPending = true) ∨
      ((i = .rxAccept ∨ i = .rxForward) ∧ s.fwdWait = none ∧ t.rxPending = false) ∨
      ∃ ok, i = .reset ok ∧ t.rxPending = false := by
  obtain ⟨ok, hi, rfl⟩ | ⟨r, rfl⟩ | ⟨-, row⟩ := exec_next_cases h
  · exact .inr (.inr (.inr ⟨ok, hi, by simp⟩))
  · exact .inl (by simp)
  · obtain ⟨b, hi, rfl⟩ | ⟨-, -, rfl⟩ | ⟨-, -, rfl⟩ | ⟨hi, -, no_wait, -, rfl⟩ | ⟨hi, -, no_wait, -, rfl⟩ |
      ⟨b, -, -, rfl⟩ | ⟨-, -, -, rfl⟩ | ⟨-, -, -, rfl⟩ | ⟨-, -, rfl⟩ | ⟨-, -, rfl⟩ | ⟨-, -, rfl⟩ := row
    · exact .inr (.inl ⟨b, hi, rfl⟩)
    · exact .inl rfl
    · exact .inl rfl
    · exact .inr (.inr (.inl ⟨.inl hi, no_wait, by simp⟩))
    · exact .inr (.inr (.inl ⟨.inr hi, no_wait, by simp⟩))
    all_goals exact .inl (by simp)

/-- A waiting handler defers a pending request and drops none (R66): only a RESET clears it. -/
theorem exec_keeps_rxPending_while_waiting {i : Instr} {s t : State} (h : exec i s = .next t)
    (pending : s.rxPending = true) (waiting : s.fwdWait ≠ none) (no_reset : ∀ ok, i ≠ .reset ok) :
    t.rxPending = true := by
  obtain kept | ⟨_, -, requested⟩ | ⟨-, no_wait, -⟩ | ⟨ok, reset, -⟩ := exec_rxPending_cases h
  · rw [kept, pending]
  · exact requested
  · exact absurd no_wait waiting
  · exact absurd reset (no_reset ok)

/-! ## An enabled receive service -/

theorem enabled_rxService_iff (s : State) :
    Enabled .rxService s = true ↔ s.phase = .run ∧ s.rxPending = true ∧ s.fwdWait = none := by
  simp [Enabled, rxServiceReady_iff]

/-- An RX_ACCEPT in RUN with a byte pending, none waiting, before the first byte of a transfer is always taken. -/
theorem exec_rxAccept_ready {s : State} (running : s.phase = .run) (pending : s.rxPending = true)
    (no_wait : s.fwdWait = none) (first : s.isFirst = true) :
    exec .rxAccept s = .next ((s.enterHandler.accept s.rxBuf).reporting .taken) := by
  have ready : rxServiceReady s = true := (rxServiceReady_iff s).2 ⟨pending, no_wait⟩
  simp [exec, execRxAccept, whenReady_run running, ready, flagF, first, taken]

/-- An RX_FORWARD in RUN with a byte pending, none waiting, in the middle of a transfer is always taken. -/
theorem exec_rxForward_ready {s : State} (running : s.phase = .run) (pending : s.rxPending = true)
    (no_wait : s.fwdWait = none) (mid_transfer : s.isFirst = false) :
    exec .rxForward s = .next ((s.enterHandler.startForward s.rxBuf).reporting .taken) := by
  have ready : rxServiceReady s = true := (rxServiceReady_iff s).2 ⟨pending, no_wait⟩
  simp [exec, execRxForward, whenReady_run running, ready, flagF, mid_transfer, taken]

/-- Whichever row the branch bit selects, an enabled receive service takes the request. -/
theorem stepOp_rxService_takes_request {s : State} (enabled : Enabled .rxService s = true) :
    ∃ t, stepOp .rxService s = .next t ∧ t.rxPending = false := by
  obtain ⟨running, pending, no_wait⟩ := (enabled_rxService_iff s).1 enabled
  rw [stepOp_rxService]
  cases first : s.isFirst with
  | true => exact ⟨_, exec_rxAccept_ready running pending no_wait first, by simp⟩
  | false => exact ⟨_, exec_rxForward_ready running pending no_wait first, by simp⟩

/-- Settles O13: the condition by `enabled_rxService_iff`, the request taken on either branch, and the deferral by
`exec_rxPending_cases`, since a RESET row is decoded from a RESET alone. -/
theorem rxServiceEnabledExactly : Obligations.RxServiceEnabledExactly := by
  unfold Obligations.RxServiceEnabledExactly
  refine ⟨enabled_rxService_iff, fun _ enabled => stepOp_rxService_takes_request enabled, ?_⟩
  intro o s t pending waiting no_reset h
  obtain ⟨i, rest, decoded, ran⟩ := runRequest_next h
  refine exec_keeps_rxPending_while_waiting ran pending waiting fun ok is_reset => ?_
  subst is_reset
  exact no_reset ok (Request.op.inj (decode_fetch_reset decoded))

end Sys2Proof.Machine
end

section
/-! Proofs about MAP_SERVO (41_servo_mapper.md R76): the request decodes to its own row, and the row answers the value in
the report alone. -/

namespace Sys2Proof.Machine

/-! ## A request whose fetched word decodes -/

theorem runRequest_of_decode {r : Request} {s : State} {i : Instr} {rest : List Byte}
    (decoded : decode (fetch r s) = .ok i rest) : runRequest r s = exec i s := by
  simp only [runRequest, decoded]

/-! ## The mapper's row -/

theorem decode_fetch_mapServo (b : Byte) (s : State) : decode (fetch (.mapServo b) s) = .ok (.mapServo b) [] := rfl

theorem exec_mapServo (b : Byte) (s : State) :
    exec (.mapServo b) s = .next (s.reporting (.compare (mapServo b))) := rfl

/-- The two ends and the middle of the mapper's range, as R76 gives them. -/
theorem mapServo_corners :
    (mapServo 0).toNat = 4000 ∧ (mapServo 255).toNat = 7825 ∧ (mapServo 0x80).toNat = 5920 := by
  simp [mapServo_toNat]

/-- Settles O30: the row by `decode_fetch_mapServo`, its answer by `exec_mapServo`, the value by `mapServo_toNat`. -/
theorem mapServoResult : Obligations.MapServoResult := by
  unfold Obligations.MapServoResult
  intro b s
  obtain ⟨least, greatest, middle⟩ := mapServo_corners
  have decoded := decode_fetch_mapServo b s
  refine ⟨mapServo b, runRequest_of_decode decoded, exec_mapServo b s, rfl, mapServo_toNat b, ?_, ?_, ?_⟩
  · rintro rfl
    exact least
  · rintro rfl
    exact greatest
  · rintro rfl
    exact middle

end Sys2Proof.Machine
end

section
/-! Proofs about the idle latch and `checkIdle` (42_link_timeout.md R82): what each named update does to the latch, what
exec does to it, which request a TICK_WRAP row comes from, and the row a POLL selects by its pins and the latch. -/

namespace Sys2Proof.Machine

/-! ## checkIdle -/

/-- Consuming a latch that is 1 and keeping one that is 0 both leave 0. -/
theorem checkIdle_eq (s : State) : s.checkIdle = (s.idleLatch, { s with idleLatch := false }) := by
  cases latch : s.idleLatch <;> simp [State.checkIdle, latch]

theorem checkIdle_of_clear {s : State} (clear : s.idleLatch = false) : s.checkIdle = (false, s) := by
  rw [checkIdle_eq, ← clear]

/-! ## The latch, the phase and the wait under the named updates -/

@[simp] theorem State.accept_idleLatch (s : State) (b : Byte) : (s.accept b).idleLatch = s.linkReset.idleLatch := by
  simp [accept_eq]

@[simp] theorem State.finishForward_idleLatch (s : State) (b : Byte) :
    (s.finishForward b).idleLatch = s.linkReset.idleLatch := by
  simp [finishForward_eq]

@[simp] theorem State.pollIdle_idleLatch (s : State) : s.pollIdle.idleLatch = false := by
  cases latch : s.idleLatch with
  | true => simp [pollIdle_hit s latch]
  | false => simp [pollIdle_miss s latch, latch]

@[simp] theorem State.pollIdle_phase (s : State) : s.pollIdle.phase = s.phase := by
  cases latch : s.idleLatch with
  | true => simp [pollIdle_hit s latch]
  | false => simp [pollIdle_miss s latch]

@[simp] theorem State.pollIdle_fwdWait (s : State) : s.pollIdle.fwdWait = s.fwdWait := by
  cases latch : s.idleLatch with
  | true => simp [pollIdle_hit s latch]
  | false => simp [pollIdle_miss s latch]

/-! ## The latch under exec -/

/-- The writers of the latch and the value each writes: the two rows with a link reset give it the link reset's value;
every other row, and a row that has no step, keeps it. -/
theorem exec_idleLatch_cases {i : Instr} {s t : State} (h : exec i s = .next t) :
    t.idleLatch = s.idleLatch ∨
      (i = .tickWrap ∧ flagW s = true ∧ t.idleLatch = true) ∨
      ((i = .rxAccept ∨ i = .txIssue) ∧ t.idleLatch = s.linkReset.idleLatch) ∨
      (i = .pollIdleHit ∧ t.idleLatch = false) ∨
      ∃ ok, i = .reset ok ∧ t.idleLatch = false := by
  obtain ⟨ok, hi, rfl⟩ | ⟨r, rfl⟩ | ⟨-, row⟩ := exec_next_cases h
  · exact .inr (.inr (.inr (.inr ⟨ok, hi, by simp⟩)))
  · exact .inl (by simp)
  · obtain ⟨b, -, rfl⟩ | ⟨-, -, rfl⟩ | ⟨hi, wraps, rfl⟩ | ⟨hi, -, -, -, rfl⟩ | ⟨-, -, -, -, rfl⟩ | ⟨b, hi, -, rfl⟩ |
      ⟨-, -, clear, rfl⟩ | ⟨hi, -, -, rfl⟩ | ⟨-, -, rfl⟩ | ⟨-, -, rfl⟩ | ⟨-, -, rfl⟩ := row
    · exact .inl rfl
    · exact .inl rfl
    · exact .inr (.inl ⟨hi, wraps, rfl⟩)
    · exact .inr (.inr (.inl ⟨.inl hi, State.accept_idleLatch s.enterHandler s.rxBuf⟩))
    · exact .inl (by simp)
    · exact .inr (.inr (.inl ⟨.inr hi, by simp⟩))
    · exact .inl (by simp [clear])
    · exact .inr (.inr (.inr (.inl ⟨hi, by simp⟩)))
    all_goals exact .inl (by simp)

/-- A link reset keeps a clear latch clear whatever RX_CLEARS_LATCH is, so only the wrap is left to set one. -/
theorem exec_sets_idleLatch {i : Instr} {s t : State} (h : exec i s = .next t) (before : s.idleLatch = false)
    (after : t.idleLatch = true) : i = .tickWrap ∧ flagW s = true := by
  obtain kept | ⟨hi, wraps, -⟩ | ⟨-, reset⟩ | ⟨-, cleared⟩ | ⟨_, -, cleared⟩ := exec_idleLatch_cases h
  · simp [before, after] at kept
  · exact ⟨hi, wraps⟩
  · simp [before, after] at reset
  all_goals simp [after] at cleared

theorem exec_pollFwd_keeps_idleLatch {i : Instr} {s t : State} (forwards : i = .pollFwdA ∨ i = .pollFwdB ∨ i = .pollFwdBoth)
    (h : exec i s = .next t) : t.idleLatch = s.idleLatch := by
  obtain kept | ⟨rfl, -⟩ | ⟨rfl | rfl, -⟩ | ⟨rfl, -⟩ | ⟨_, rfl, -⟩ := exec_idleLatch_cases h
  · exact kept
  all_goals simp at forwards

/-! ## The request of a TICK_WRAP -/

theorem decodeStep_tickWrap {ok : Bool} {w : Byte} {bs rest : List Byte}
    (h : decodeStep ok (w :: bs) = .ok .tickWrap rest) : decodeSelector w = some .tickWrap := by
  cases row : decodeSelector w with
  | none => simp [decodeStep, row] at h
  | some r =>
    cases r with
    | tickWrap => rfl
    | rxArrive => cases bs <;> simp [decodeStep, row] at h
    | _ => simp [decodeStep, row] at h

/-- Among the operations only a TICK decodes to TICK_WRAP: its row is of kind 010. -/
theorem decode_fetch_op_tickWrap {o : Op} {s : State} {rest : List Byte}
    (h : decode (fetch (.op o) s) = .ok .tickWrap rest) : o = .tick := by
  have kind_two {k : BitVec 3} {m : Pins} {ok : Bool} {bs : List Byte}
      (h : decodeStep ok (selectorWord k m s :: bs) = .ok .tickWrap rest) : k = 0b010 := by
    rw [← selectorWord_kind k m s, decodeSelector_kind (decodeStep_tickWrap h)]
    rfl
  cases o with
  | tick => rfl
  | reset | rxArrive | rxService | txIssue | poll => exact absurd (kind_two h) (by simp [kindOf])

/-- No operation sets a clear latch but the tick that completes a period. -/
theorem stepOp_sets_idleLatch {o : Op} {s t : State} (h : stepOp o s = .next t) (before : s.idleLatch = false)
    (after : t.idleLatch = true) : o = .tick ∧ s.linkCnt.toNat + 1 = s.params.linkPeriod := by
  obtain ⟨i, rest, decoded, ran⟩ := runRequest_next h
  obtain ⟨rfl, wraps⟩ := exec_sets_idleLatch ran before after
  exact ⟨decode_fetch_op_tickWrap decoded, (flagW_iff s).1 wraps⟩

/-! ## The row of a POLL -/

/-- Within kind 101 and mode 00 the latch bit L selects the row: F and W are don't-care bits (30_encoding.md R56, R58). -/
theorem decodeSelector_pollIdle_word (s : State) :
    decodeSelector (selectorWord (kindOf (.poll false false)) (modeFieldOf (.poll false false)) s) =
      some (if s.idleLatch then .pollIdleHit else .pollIdleMiss) := by
  simp only [selectorWord, flagL]
  cases flagF s <;> cases flagW s <;> cases s.idleLatch <;> decide

theorem decode_fetch_poll_idle (s : State) :
    decode (fetch (.op (.poll false false)) s) = .ok (if s.idleLatch then .pollIdleHit else .pollIdleMiss) [] := by
  simp only [decode, fetch, decodeStep, decodeSelector_pollIdle_word]
  cases s.idleLatch <;> rfl

/-- Within kind 101 a mode other than 00 selects its row by itself: L is a don't-care bit too (30_encoding.md R56, R58). -/
theorem decodeSelector_pollFwd_word (s : State) :
    decodeSelector (selectorWord (kindOf (.poll false true)) (modeFieldOf (.poll false true)) s) = some .pollFwdA ∧
    decodeSelector (selectorWord (kindOf (.poll true false)) (modeFieldOf (.poll true false)) s) = some .pollFwdB ∧
    decodeSelector (selectorWord (kindOf (.poll true true)) (modeFieldOf (.poll true true)) s) = some .pollFwdBoth := by
  simp only [selectorWord]
  cases flagF s <;> cases flagW s <;> cases flagL s <;> decide

theorem decode_fetch_poll_fwd (s : State) :
    decode (fetch (.op (.poll false true)) s) = .ok .pollFwdA [] ∧
    decode (fetch (.op (.poll true false)) s) = .ok .pollFwdB [] ∧
    decode (fetch (.op (.poll true true)) s) = .ok .pollFwdBoth [] := by
  obtain ⟨row_a, row_b, row_both⟩ := decodeSelector_pollFwd_word s
  simp only [decode, fetch, decodeStep, row_a, row_b, row_both, and_self]

/-! ## A POLL step -/

theorem exec_pollIdleMiss_ready {s : State} (running : s.phase = .run) (no_wait : s.fwdWait = none)
    (clear : s.idleLatch = false) : exec .pollIdleMiss s = .next (s.pollIdle.reporting .taken) := by
  have ready : pollReady s = true := (pollReady_iff s).2 no_wait
  simp [exec, execPollIdleMiss, whenReady_run running, ready, flagL, clear, taken]

theorem exec_pollIdleHit_ready {s : State} (running : s.phase = .run) (no_wait : s.fwdWait = none)
    (set : s.idleLatch = true) : exec .pollIdleHit s = .next (s.pollIdle.reporting .taken) := by
  have ready : pollReady s = true := (pollReady_iff s).2 no_wait
  simp [exec, execPollIdleHit, whenReady_run running, ready, flagL, set, taken]

theorem stepOp_poll_idle_of_clear {s : State} (clear : s.idleLatch = false) :
    stepOp (.poll false false) s = exec .pollIdleMiss s :=
  runRequest_of_decode (by simpa [clear] using decode_fetch_poll_idle s)

theorem stepOp_poll_idle_of_set {s : State} (set : s.idleLatch = true) :
    stepOp (.poll false false) s = exec .pollIdleHit s :=
  runRequest_of_decode (by simpa [set] using decode_fetch_poll_idle s)

/-- Whichever row the latch bit selects, an enabled POLL 0 0 runs the idle poll. -/
theorem stepOp_poll_idle_ready {s : State} (running : s.phase = .run) (no_wait : s.fwdWait = none) :
    stepOp (.poll false false) s = .next (s.pollIdle.reporting .taken) := by
  cases latch : s.idleLatch with
  | true => rw [stepOp_poll_idle_of_set latch, exec_pollIdleHit_ready running no_wait latch]
  | false => rw [stepOp_poll_idle_of_clear latch, exec_pollIdleMiss_ready running no_wait latch]

/-- A POLL 0 0 consumed the latch, so one more right after it is taken and misses. -/
theorem poll_after_poll_idle_misses {s t : State} (running : s.phase = .run) (no_wait : s.fwdWait = none)
    (h : stepOp (.poll false false) s = .next t) :
    t.idleLatch = false ∧ stepOp (.poll false false) t = exec .pollIdleMiss t ∧
      ∃ u, exec .pollIdleMiss t = .next u ∧ u.report = .taken ∧ u.isFirst = t.isFirst := by
  rw [stepOp_poll_idle_ready running no_wait] at h
  cases h
  have clear : (s.pollIdle.reporting .taken).idleLatch = false := by simp
  refine ⟨clear, stepOp_poll_idle_of_clear clear, _,
    exec_pollIdleMiss_ready (by simpa using running) (by simpa using no_wait) clear, rfl, ?_⟩
  rw [State.reporting_isFirst, State.pollIdle_isFirst_of_no_latch clear]

theorem stepOp_poll_fwd_keeps_idleLatch {s t : State} {p0 p1 : Bool} (forwards : (p0 || p1) = true)
    (h : stepOp (.poll p0 p1) s = .next t) : t.idleLatch = s.idleLatch := by
  obtain ⟨fwd_a, fwd_b, fwd_both⟩ := decode_fetch_poll_fwd s
  cases p0 with
  | false =>
    cases p1 with
    | false => cases forwards
    | true => exact exec_pollFwd_keeps_idleLatch (.inl rfl) (runRequest_of_decode fwd_a ▸ h)
  | true =>
    cases p1 with
    | false => exact exec_pollFwd_keeps_idleLatch (.inr (.inl rfl)) (runRequest_of_decode fwd_b ▸ h)
    | true => exact exec_pollFwd_keeps_idleLatch (.inr (.inr rfl)) (runRequest_of_decode fwd_both ▸ h)

/-- Settles O34: `checkIdle` by `checkIdle_eq`, the one setter of the latch by `exec_idleLatch_cases`, and the polls by the
rows their pins select. -/
theorem checkIdleIsConsumeOnce : Obligations.CheckIdleIsConsumeOnce := by
  unfold Obligations.CheckIdleIsConsumeOnce
  refine ⟨checkIdle_eq, fun s => ?_, fun _ clear => checkIdle_of_clear clear, fun o s t clear no_wrap h => ?_,
    fun _ _ running no_wait h => poll_after_poll_idle_misses running no_wait h,
    fun _ _ _ _ forwards h => stepOp_poll_fwd_keeps_idleLatch forwards h⟩
  · simp only [checkIdle_eq]
  · exact Bool.eq_false_iff.2 fun set => no_wrap (stepOp_sets_idleLatch h clear set)

end Sys2Proof.Machine
end

section
/-! Proofs about the mode decoder's rows (43_mode_decoder.md R86 to R90): what each row answers in any state, and the row a
pair of pin levels runs. -/

namespace Sys2Proof.Machine

/-- Each row answers the decoded mode of its own pin pair, in the report alone (43_mode_decoder.md R87 to R90). -/
theorem exec_modeRows (s : State) :
    exec .decodeRelayIdle s = .next (s.reporting (.mode (decodeMode false false))) ∧
    exec .decodeForwardA s = .next (s.reporting (.mode (decodeMode false true))) ∧
    exec .decodeForwardB s = .next (s.reporting (.mode (decodeMode true false))) ∧
    exec .decodeForwardBoth s = .next (s.reporting (.mode (decodeMode true true))) :=
  ⟨rfl, rfl, rfl, rfl⟩

/-- The row of the byte that carries a pin pair's code in its two low bits (30_encoding.md R50, R51). -/
theorem decodeModeCode_pins :
    decodeModeCode ((pins false false).setWidth 8) = .decodeRelayIdle ∧
    decodeModeCode ((pins false true).setWidth 8) = .decodeForwardA ∧
    decodeModeCode ((pins true false).setWidth 8) = .decodeForwardB ∧
    decodeModeCode ((pins true true).setWidth 8) = .decodeForwardBoth := by
  decide

theorem decode_fetch_decodeMode (p0 p1 : Bool) (s : State) :
    decode (fetch (.decodeMode p0 p1) s) = .ok (decodeModeCode ((pins p0 p1).setWidth 8)) [] := rfl

theorem runRequest_decodeMode (p0 p1 : Bool) (s : State) :
    runRequest (.decodeMode p0 p1) s = exec (decodeModeCode ((pins p0 p1).setWidth 8)) s :=
  runRequest_of_decode (decode_fetch_decodeMode p0 p1 s)

/-- Settles O32: the answers by `exec_modeRows`, the row of each pin pair by `runRequest_decodeMode` and
`decodeModeCode_pins`, the poll with both pins low by `decode_fetch_poll_idle`. -/
theorem modeDecoderRows : Obligations.ModeDecoderRows := by
  unfold Obligations.ModeDecoderRows
  intro s
  obtain ⟨relay_idle, forward_a, forward_b, forward_both⟩ := exec_modeRows s
  obtain ⟨row_00, row_01, row_10, row_11⟩ := decodeModeCode_pins
  refine ⟨relay_idle, forward_a, forward_b, forward_both, ?_, ?_, ?_, ?_, decode_fetch_poll_idle s⟩
  · rw [runRequest_decodeMode, row_00]
  · rw [runRequest_decodeMode, row_01]
  · rw [runRequest_decodeMode, row_10]
  · rw [runRequest_decodeMode, row_11]

end Sys2Proof.Machine
end

section
/-! Proofs about the receive handler's decision (44_relay_arbiter.md R94) and the idle hit (R105): the row the operation
selects, and what that row answers when it is enabled. -/

namespace Sys2Proof.Machine

/-! ## The decision of the receive handler -/

/-- An enabled RX_SERVICE before the first byte of a transfer accepts the buffered byte and clears the request. -/
theorem rxService_accepts {s : State} (running : s.phase = .run) (pending : s.rxPending = true)
    (no_wait : s.fwdWait = none) (first : s.isFirst = true) :
    stepOp .rxService s = exec .rxAccept s ∧
      ∃ t, exec .rxAccept s = .next t ∧ t = (s.enterHandler.accept s.rxBuf).reporting .taken ∧ t.rxPending = false := by
  refine ⟨?_, _, exec_rxAccept_ready running pending no_wait first, rfl, by simp⟩
  rw [stepOp_rxService, if_pos first]

/-- An enabled RX_SERVICE in the middle of a transfer forwards the buffered byte and clears the request. -/
theorem rxService_forwards {s : State} (running : s.phase = .run) (pending : s.rxPending = true)
    (no_wait : s.fwdWait = none) (mid_transfer : s.isFirst = false) :
    stepOp .rxService s = exec .rxForward s ∧
      ∃ t, exec .rxForward s = .next t ∧ t = (s.enterHandler.startForward s.rxBuf).reporting .taken ∧
        t.rxPending = false := by
  refine ⟨?_, _, exec_rxForward_ready running pending no_wait mid_transfer, rfl, by simp⟩
  rw [stepOp_rxService, if_neg (Bool.eq_false_iff.1 mid_transfer)]

/-- Settles O25: the condition by `enabled_rxService_iff`, the two branches by the first-byte flag. -/
theorem rxServiceDecides : Obligations.RxServiceDecides := by
  unfold Obligations.RxServiceDecides
  exact ⟨enabled_rxService_iff, fun _ running pending no_wait =>
    ⟨rxService_accepts running pending no_wait, rxService_forwards running pending no_wait⟩⟩

/-! ## The idle hit -/

/-- Settles O26: the set latch selects the hit's row, the row is enabled, and `pollIdle_hit` is its update. -/
theorem pollIdleHitResult : Obligations.PollIdleHitResult := by
  unfold Obligations.PollIdleHitResult
  intro s running no_wait set
  refine ⟨stepOp_poll_idle_of_set set, ?_⟩
  rw [exec_pollIdleHit_ready running no_wait set, pollIdle_hit s set]
  rfl

end Sys2Proof.Machine
end

section
/-! Proofs about the colour rows (44_relay_arbiter.md R96 to R101): the bytes of each colour, what each row answers, and
what accepting a byte shows and emits. -/

namespace Sys2Proof.Machine

/-! ## The colour of a byte -/

theorem colorOf_default {b : Byte} (not_blue : b ≠ 0x01) (not_red : b ≠ 0x02) (not_green : b ≠ 0x03)
    (not_white : b ≠ 0xFF) : colorOf b = .amber := by
  rw [colorOf, if_neg not_blue, if_neg not_red, if_neg not_green, if_neg not_white]

/-- A byte is one of the four sentinels with its colour, or none of them and amber. -/
theorem colorOf_cases (b : Byte) :
    (b = 0x01 ∧ colorOf b = .blue) ∨ (b = 0x02 ∧ colorOf b = .red) ∨ (b = 0x03 ∧ colorOf b = .green) ∨
      (b = 0xFF ∧ colorOf b = .white) ∨
      ((b ≠ 0x01 ∧ b ≠ 0x02 ∧ b ≠ 0x03 ∧ b ≠ 0xFF) ∧ colorOf b = .amber) := by
  by_cases blue : b = 0x01
  · exact .inl ⟨blue, by rw [blue]; rfl⟩
  by_cases red : b = 0x02
  · exact .inr (.inl ⟨red, by rw [red]; rfl⟩)
  by_cases green : b = 0x03
  · exact .inr (.inr (.inl ⟨green, by rw [green]; rfl⟩))
  by_cases white : b = 0xFF
  · exact .inr (.inr (.inr (.inl ⟨white, by rw [white]; rfl⟩)))
  exact .inr (.inr (.inr (.inr ⟨⟨blue, red, green, white⟩, colorOf_default blue red green white⟩)))

/-- The exact bytes of each colour; cyan is the colour of none. -/
theorem colorOf_preimages (b : Byte) :
    (colorOf b = .blue ↔ b = 0x01) ∧ (colorOf b = .red ↔ b = 0x02) ∧ (colorOf b = .green ↔ b = 0x03) ∧
    (colorOf b = .white ↔ b = 0xFF) ∧ (colorOf b = .amber ↔ b ≠ 0x01 ∧ b ≠ 0x02 ∧ b ≠ 0x03 ∧ b ≠ 0xFF) ∧
    colorOf b ≠ .cyan := by
  obtain ⟨rfl, -⟩ | ⟨rfl, -⟩ | ⟨rfl, -⟩ | ⟨rfl, -⟩ | ⟨no_sentinel, amber⟩ := colorOf_cases b
  · decide
  · decide
  · decide
  · decide
  · have ⟨not_blue, not_red, not_green, not_white⟩ := no_sentinel
    rw [amber]
    exact ⟨iff_of_false nofun not_blue, iff_of_false nofun not_red, iff_of_false nofun not_green,
      iff_of_false nofun not_white, iff_of_true rfl no_sentinel, nofun⟩

/-- An operand of the default row is no sentinel byte (30_encoding.md R53). -/
theorem wellFormed_acceptColorAmber_iff (b : Byte) :
    Instr.wellFormed (.acceptColorAmber b) = true ↔ b ≠ 0x01 ∧ b ≠ 0x02 ∧ b ≠ 0x03 ∧ b ≠ 0xFF := by
  simp [Instr.wellFormed, isSentinel, and_assoc]

/-! ## The colour rows -/

/-- Each sentinel row answers the colour of its own byte, in the report alone (44_relay_arbiter.md R97 to R100). -/
theorem exec_sentinelColorRows (s : State) :
    exec .acceptColorBlue s = .next (s.reporting (.color .blue)) ∧
    exec .acceptColorRed s = .next (s.reporting (.color .red)) ∧
    exec .acceptColorGreen s = .next (s.reporting (.color .green)) ∧
    exec .acceptColorWhite s = .next (s.reporting (.color .white)) :=
  ⟨rfl, rfl, rfl, rfl⟩

theorem exec_acceptColorAmber (b : Byte) (s : State) :
    exec (.acceptColorAmber b) s = .next (s.reporting (.color (colorOf b))) := rfl

/-- Every operand the decoder gives the default row is amber (44_relay_arbiter.md R101). -/
theorem exec_acceptColorAmber_wellFormed {b : Byte} (s : State)
    (legal : Instr.wellFormed (.acceptColorAmber b) = true) :
    exec (.acceptColorAmber b) s = .next (s.reporting (.color .amber)) := by
  obtain ⟨not_blue, not_red, not_green, not_white⟩ := (wellFormed_acceptColorAmber_iff b).1 legal
  rw [exec_acceptColorAmber, colorOf_default not_blue not_red not_green not_white]

/-! ## What accepting a byte shows and emits -/

theorem accept_displayed (s : State) (b : Byte) : (s.accept b).displayed = some (Config.colorRgb (colorOf b)) := by
  simp [State.displayed, accept_eq]

/-- The events of an accept, from the byte's compare value and its colour. -/
theorem accept_hist_of {b : Byte} {v : Word} {c : Color} (s : State) (value : mapServo b = v) (color : colorOf b = c) :
    (s.accept b).hist = s.hist ++ [.servoWrite v, .strip c] := by
  rw [State.accept_hist, value, color]

/-- Settles O33: the rows by their own equations, the bytes of a colour by `colorOf_cases`, the display and the events by
the accept branch. -/
theorem colorRows : Obligations.ColorRows := by
  unfold Obligations.ColorRows
  refine ⟨fun s => ?_, colorOf_preimages, ⟨rfl, rfl, rfl, rfl, rfl, rfl⟩, accept_displayed, fun s => ?_⟩
  · obtain ⟨blue, red, green, white⟩ := exec_sentinelColorRows s
    exact ⟨blue, red, green, white, fun _ legal => exec_acceptColorAmber_wellFormed s legal⟩
  · exact ⟨accept_hist_of s rfl rfl, accept_hist_of s rfl rfl, accept_hist_of s rfl rfl, accept_hist_of s rfl rfl,
      accept_hist_of s rfl rfl, accept_hist_of s rfl rfl⟩

end Sys2Proof.Machine
end

section
/-! Proofs about a byte overwritten before its service (70_reset_and_hazards.md R134): the receive buffer is read by the
two service rows alone and written by every arrival, so runs that differ in it stay alike up to the next arrival. -/

namespace Sys2Proof.Machine

/-! ## Another byte in the receive buffer -/

/-- The state with another byte in the receive buffer (10_state.md R18). -/
def State.withRxBuf (s : State) (b : Byte) : State := { s with rxBuf := b }

/-- Two outcomes are equal, or next states that differ in the receive buffer alone. -/
def AlikeButRxBuf (o o' : Host.Outcome State Fault Refusal) : Prop :=
  o' = o ∨ ∃ t b, o = .next t ∧ o' = .next (t.withRxBuf b)

theorem State.pollIdle_withRxBuf (s : State) (b : Byte) : (s.withRxBuf b).pollIdle = s.pollIdle.withRxBuf b := by
  cases latch : s.idleLatch with
  | true => rw [pollIdle_hit s latch, pollIdle_hit (s.withRxBuf b) latch]; rfl
  | false => rw [pollIdle_miss s latch, pollIdle_miss (s.withRxBuf b) latch]; rfl

/-- The word and the operands of a request are computed from other fields (30_encoding.md R54, R59). -/
theorem fetch_withRxBuf (r : Request) (s : State) (b : Byte) : fetch r (s.withRxBuf b) = fetch r s := rfl

/-- A row whose condition does not read the buffer, and whose effect keeps it, answers alike. -/
theorem whenReady_withRxBuf (s u : State) (r : Bool) (b : Byte) :
    AlikeButRxBuf (whenReady s r u) (whenReady (s.withRxBuf b) r (u.withRxBuf b)) := by
  cases running : s.phase with
  | halted => exact .inl (by rw [whenReady_halted running, whenReady_halted (s := s.withRxBuf b) running])
  | run =>
    rw [whenReady_run running, whenReady_run (s := s.withRxBuf b) running]
    cases r with
    | true => exact .inr ⟨_, b, rfl, rfl⟩
    | false => exact .inr ⟨_, b, rfl, rfl⟩

/-! ## The rows that do not read the buffer -/

/-- Every row but the two of the receive service answers alike whatever byte is in the buffer: RESET and an arrival
write the buffer anew, the others keep it. -/
theorem exec_withRxBuf {i : Instr} (no_service : i ≠ .rxAccept ∧ i ≠ .rxForward) (s : State) (b : Byte) :
    AlikeButRxBuf (exec i s) (exec i (s.withRxBuf b)) := by
  cases i with
  | rxAccept => exact absurd rfl no_service.1
  | rxForward => exact absurd rfl no_service.2
  | reset | rxArrive => exact .inl rfl
  | pollIdleMiss | pollIdleHit =>
    simp only [exec, execPollIdleMiss, execPollIdleHit, State.pollIdle_withRxBuf]
    exact whenReady_withRxBuf s _ _ b
  | tickCount | tickWrap | txIssue | pollFwdA | pollFwdB | pollFwdBoth => exact whenReady_withRxBuf s _ _ b
  | decodeRelayIdle | decodeForwardA | decodeForwardB | decodeForwardBoth | acceptColorBlue | acceptColorRed
  | acceptColorGreen | acceptColorWhite | acceptColorAmber | mapServo => exact .inr ⟨_, b, rfl, rfl⟩

/-! ## The operation of a service row -/

theorem decodeStep_service_kind {ok : Bool} {w : Byte} {bs rest : List Byte} {i : Instr}
    (h : decodeStep ok (w :: bs) = .ok i rest) (service : i = .rxAccept ∨ i = .rxForward) :
    w.extractLsb' 5 3 = 0b011 := by
  cases row : decodeSelector w with
  | none => simp [decodeStep, row] at h
  | some r =>
    have kind := decodeSelector_kind row
    cases r with
    | rxForward | rxAccept => exact kind
    | rxArrive => obtain rfl | rfl := service <;> cases bs <;> simp [decodeStep, row] at h
    | _ => obtain rfl | rfl := service <;> simp [decodeStep, row] at h

/-- Among the operations only an RX_SERVICE decodes to a service row: both are of kind 011. -/
theorem decode_fetch_op_service {o : Op} {s : State} {i : Instr} {rest : List Byte}
    (h : decode (fetch (.op o) s) = .ok i rest) (service : i = .rxAccept ∨ i = .rxForward) : o = .rxService := by
  have kind_three {k : BitVec 3} {m : Pins} {ok : Bool} {bs : List Byte}
      (h : decodeStep ok (selectorWord k m s :: bs) = .ok i rest) : k = 0b011 := by
    rw [← selectorWord_kind k m s, decodeStep_service_kind h service]
  cases o with
  | rxService => rfl
  | reset | rxArrive | tick | txIssue | poll => exact absurd (kind_three h) (by simp [kindOf])

/-! ## A step and a run with another byte in the buffer -/

theorem stepOp_withRxBuf {o : Op} (no_service : o ≠ .rxService) (s : State) (b : Byte) :
    AlikeButRxBuf (stepOp o s) (stepOp o (s.withRxBuf b)) := by
  simp only [stepOp, runRequest, fetch_withRxBuf]
  cases decoded : decode (fetch (.op o) s) with
  | reject why => exact .inl rfl
  | ok i rest =>
    refine exec_withRxBuf ⟨fun accept => ?_, fun forward => ?_⟩ s b
    · exact no_service (decode_fetch_op_service decoded (.inl accept))
    · exact no_service (decode_fetch_op_service decoded (.inr forward))

/-- Kind 001 selects the arrival's row by itself: F, W and L are don't-care bits (30_encoding.md R56, R58). -/
theorem decode_fetch_rxArrive (b : Byte) (s : State) : decode (fetch (.op (.rxArrive b)) s) = .ok (.rxArrive b) [] := by
  have row : decodeSelector (selectorWord 0b001 0 s) = some .rxArrive := by
    simp only [selectorWord]
    cases flagF s <;> cases flagW s <;> cases flagL s <;> decide
  simp only [decode, fetch, decodeStep, row]

/-- What an arrival leaves beside its byte (44_relay_arbiter.md R93). -/
def State.requested (s : State) : State := { s with rxPending := true, report := .taken }

theorem stepOp_rxArrive (b : Byte) (s : State) :
    stepOp (.rxArrive b) s = whenReady s true { s with rxBuf := b, rxPending := true } :=
  runRequest_of_decode (decode_fetch_rxArrive b s)

theorem stepOp_rxArrive_run {s : State} (running : s.phase = .run) (b : Byte) :
    stepOp (.rxArrive b) s = .next (s.requested.withRxBuf b) := by
  rw [stepOp_rxArrive, whenReady_run running]
  rfl

theorem stepOp_rxArrive_halted {s : State} (halted : s.phase = .halted) (b : Byte) :
    stepOp (.rxArrive b) s = .fault .clockCalibrationMissing := by
  rw [stepOp_rxArrive, whenReady_halted halted]

/-- An arrival overwrites the buffer, so what was in it does not matter. -/
theorem stepOp_rxArrive_withRxBuf (c b : Byte) (s : State) :
    stepOp (.rxArrive c) (s.withRxBuf b) = stepOp (.rxArrive c) s := by
  rw [stepOp_rxArrive, stepOp_rxArrive]
  rfl

theorem stepOps_cons_next {o : Op} {os : List Op} {s t : State} (h : stepOp o s = .next t) :
    stepOps (o :: os) s = stepOps os t := by
  simp only [stepOps, h]

theorem stepOps_cons_congr {o o' : Op} {os : List Op} {s s' : State} (h : stepOp o s = stepOp o' s') :
    stepOps (o :: os) s = stepOps (o' :: os) s' := by
  simp only [stepOps, h]

/-- A run up to an arrival, with no service before it, and on from there is the same whatever byte the buffer held. -/
theorem stepOps_withRxBuf_until_rxArrive {mid : List Op} (no_service : ∀ o ∈ mid, o ≠ .rxService) (c b : Byte)
    (os : List Op) (s : State) :
    stepOps (mid ++ .rxArrive c :: os) (s.withRxBuf b) = stepOps (mid ++ .rxArrive c :: os) s := by
  induction mid generalizing s b with
  | nil => exact stepOps_cons_congr (stepOp_rxArrive_withRxBuf c b s)
  | cons o mid ih =>
    obtain ⟨head, tail⟩ := List.forall_mem_cons.1 no_service
    obtain same | ⟨t, b', ran, ran'⟩ := stepOp_withRxBuf head s b
    · exact stepOps_cons_congr same
    · rw [List.cons_append, stepOps_cons_next ran, stepOps_cons_next ran', ih tail]

/-- Settles O53: in RUN the first byte is in the buffer alone, and the second arrival overwrites it
(`stepOps_withRxBuf_until_rxArrive`); in HALTED the first arrival is the fault whatever its byte. -/
theorem overrunLosesTheFirstByte : Obligations.OverrunLosesTheFirstByte := by
  unfold Obligations.OverrunLosesTheFirstByte
  refine ⟨fun b b' c s mid os no_service => ?_, fun b c s os => ?_⟩
  · cases phase : s.phase with
    | run =>
      rw [stepOps_cons_next (stepOp_rxArrive_run phase b), stepOps_cons_next (stepOp_rxArrive_run phase b'),
        stepOps_withRxBuf_until_rxArrive no_service, stepOps_withRxBuf_until_rxArrive no_service]
    | halted =>
      exact stepOps_cons_congr (by rw [stepOp_rxArrive_halted phase, stepOp_rxArrive_halted phase])
  · cases phase : s.phase with
    | run =>
      have arrives_again : stepOp (.rxArrive c) (s.requested.withRxBuf b) = stepOp (.rxArrive c) s := by
        rw [stepOp_rxArrive_withRxBuf, stepOp_rxArrive_run phase, stepOp_rxArrive_run (s := s.requested) phase]
        rfl
      rw [stepOps_cons_next (stepOp_rxArrive_run phase b)]
      exact stepOps_cons_congr arrives_again
    | halted => simp only [stepOps, stepOp_rxArrive_halted phase]

end Sys2Proof.Machine
end

section
/-! Proofs about the four decoders and the encoder (30_encoding.md R51, R53, R57 to R59): the selector table is exact, and
the code of a row, whatever its don't-care bits, is read back as that row and no other. -/

namespace Sys2Proof.Machine

/-! ## The selector table -/

theorem mem_selectorTable (r : Selector) : r ∈ selectorTable := by
  cases r <;> decide

/-- Any two rows disagree in a bit that both fix (30_encoding.md R58). -/
theorem selector_eq_of_common_bits {r r' : Selector} (agree : r.pattern &&& r'.mask = r'.pattern &&& r.mask) :
    r = r' := by
  have disjoint : ∀ q ∈ selectorTable, ∀ q' ∈ selectorTable, q.pattern &&& q'.mask = q'.pattern &&& q.mask → q = q' := by
    decide
  exact disjoint r (mem_selectorTable r) r' (mem_selectorTable r') agree

theorem selector_unique {w : Byte} {r r' : Selector} (row : w &&& r.mask = r.pattern) (row' : w &&& r'.mask = r'.pattern) :
    r = r' := by
  refine selector_eq_of_common_bits ?_
  rw [← row, ← row', BitVec.and_assoc, BitVec.and_assoc, BitVec.and_comm r.mask]

/-- The table's lookup is its specification: the row found is the one row whose fixed bits the word has (R58). -/
theorem decodeSelector_iff (w : Byte) (r : Selector) : decodeSelector w = some r ↔ w &&& r.mask = r.pattern := by
  constructor
  · intro found
    simpa [Selector.selects] using List.find?_some found
  · intro row
    cases found : decodeSelector w with
    | none =>
      have misses := List.find?_eq_none.1 found r (mem_selectorTable r)
      simp [Selector.selects, row] at misses
    | some r' =>
      have row' : w &&& r'.mask = r'.pattern := by simpa [Selector.selects] using List.find?_some found
      rw [selector_unique row row']

theorem decodeSelector_isSome_iff (w : Byte) : (decodeSelector w).isSome = true ↔ w.toNat / 32 ≤ 5 := by
  revert w
  decide

theorem decodeSelector_reserved {w : Byte} (reserved : 6 ≤ w.toNat / 32) : decodeSelector w = none := by
  refine Option.not_isSome_iff_eq_none.1 fun row => ?_
  have kind := (decodeSelector_isSome_iff w).1 row
  omega

/-- Settles O3: the lookup by `decodeSelector_iff`, the words without a row by their kind. -/
theorem selectorTableIsExact : Obligations.SelectorTableIsExact := by
  unfold Obligations.SelectorTableIsExact
  exact ⟨decodeSelector_iff, decodeSelector_isSome_iff⟩

/-! ## A row's word with don't-care bits -/

theorem pattern_and_mask (r : Selector) : r.pattern &&& r.mask = r.pattern := by
  cases r <;> decide

/-- A row's word selects the row whatever its don't-care bits. -/
theorem decodeSelector_word (r : Selector) (dc : Byte) : decodeSelector (r.word dc) = some r := by
  refine (decodeSelector_iff _ r).2 ?_
  rw [Selector.word, BitVec.and_or_distrib_right]
  simp [BitVec.and_assoc, pattern_and_mask]

/-- A word that selects a row is the row's word with the word's own don't-care bits. -/
theorem word_of_decodeSelector {w : Byte} {r : Selector} (row : decodeSelector w = some r) : r.word w = w := by
  rw [Selector.word, ← (decodeSelector_iff w r).1 row, ← BitVec.and_or_distrib_left, BitVec.or_not_self,
    BitVec.and_allOnes]

/-! ## A mode code with the six bits above it free -/

/-- Only the two low bits of a mode code's byte are read (30_encoding.md R51). -/
theorem decodeModeCode_free_bits (m dc : Byte) : decodeModeCode (m ||| (dc &&& 0xFC)) = decodeModeCode m := by
  simp [decodeModeCode]

/-- A mode code's byte is its two low bits and the six free ones. -/
theorem byte_of_mode_bits {w : Byte} {b1 b0 : Bool} (high : w.getLsbD 1 = b1) (low : w.getLsbD 0 = b0) :
    ((pins b1 b0).setWidth 8 ||| (w &&& 0xFC)) = w := by
  subst high low
  revert w
  decide

/-! ## The round trip -/

/-- Settles O1: a selector word by `decodeSelector_word`, a mode code by `decodeModeCode_free_bits`, and the default
colour row by its operand being no sentinel. -/
theorem decodeEncodeAgree : Obligations.DecodeEncodeAgree := by
  unfold Obligations.DecodeEncodeAgree
  intro dc i rest well_formed
  cases i with
  | reset | rxArrive | tickCount | tickWrap | rxForward | rxAccept | txIssue | pollIdleMiss | pollIdleHit | pollFwdA
  | pollFwdB | pollFwdBoth =>
    simp only [encodeWith, decode, List.cons_append, List.nil_append, decodeStep, decodeSelector_word]
  | decodeRelayIdle | decodeForwardA | decodeForwardB | decodeForwardBoth =>
    simp only [encodeWith, decode, List.cons_append, List.nil_append, decodeModeCode_free_bits]
    rfl
  | acceptColorBlue | acceptColorRed | acceptColorGreen | acceptColorWhite | mapServo => rfl
  | acceptColorAmber b =>
    obtain ⟨not_blue, not_red, not_green, not_white⟩ := (wellFormed_acceptColorAmber_iff b).1 well_formed
    simp only [encodeWith, decode, List.cons_append, List.nil_append,
      decodeSentinel_default not_blue not_red not_green not_white]

/-- What the other direction of the round trip says of one decoded instruction: it is well-formed and the bytes read are
its code, with the don't-care bits of the first of them, in the same encoding space. -/
def ReadsItsCode (f : Fetched) (i : Instr) (rest : List Byte) : Prop :=
  i.wellFormed = true ∧ ∃ w tail, f.bytes = w :: tail ∧ f.bytes = (encodeWith w i).bytes ++ rest ∧
    f.format = (encodeWith w i).format

theorem decodeStep_readsItsCode {ok : Bool} {bs rest : List Byte} {i : Instr} (h : decodeStep ok bs = .ok i rest) :
    ReadsItsCode { format := .step8, calibOk := ok, bytes := bs } i rest := by
  cases bs with
  | nil => cases h
  | cons w bs =>
    cases row : decodeSelector w with
    | none => simp [decodeStep, row] at h
    | some r =>
      have word := word_of_decodeSelector row
      cases r with
      | rxArrive =>
        cases bs with
        | nil => simp [decodeStep, row] at h
        | cons b bs =>
          simp only [decodeStep, row, Decoded.ok.injEq] at h
          obtain ⟨rfl, rfl⟩ := h
          exact ⟨rfl, w, _, rfl, by simp [encodeWith, word], rfl⟩
      | _ =>
        simp only [decodeStep, row, Decoded.ok.injEq] at h
        obtain ⟨rfl, rfl⟩ := h
        exact ⟨rfl, w, _, rfl, by simp [encodeWith, word], rfl⟩

theorem decodeModeCode_readsItsCode (ok : Bool) (w : Byte) (rest : List Byte) :
    ReadsItsCode { format := .mode2, calibOk := ok, bytes := w :: rest } (decodeModeCode w) rest := by
  cases high : w.getLsbD 1 <;> cases low : w.getLsbD 0 <;> simp only [decodeModeCode, high, low] <;>
    exact ⟨rfl, w, rest, rfl, congrArg (· :: rest) (byte_of_mode_bits high low).symm, rfl⟩

theorem decodeSentinel_readsItsCode (ok : Bool) (b : Byte) (rest : List Byte) :
    ReadsItsCode { format := .byte8, calibOk := ok, bytes := b :: rest } (decodeSentinel b) rest := by
  obtain ⟨rfl, -⟩ | ⟨rfl, -⟩ | ⟨rfl, -⟩ | ⟨rfl, -⟩ | ⟨no_sentinel, -⟩ := colorOf_cases b
  iterate 4 exact ⟨rfl, _, rest, rfl, rfl, rfl⟩
  have ⟨not_blue, not_red, not_green, not_white⟩ := no_sentinel
  rw [decodeSentinel_default not_blue not_red not_green not_white]
  exact ⟨(wellFormed_acceptColorAmber_iff b).2 no_sentinel, b, rest, rfl, rfl, rfl⟩

/-- Settles O2, one encoding space at a time. -/
theorem decodedCodeIsTheBytesRead : Obligations.DecodedCodeIsTheBytesRead := by
  unfold Obligations.DecodedCodeIsTheBytesRead
  rintro ⟨format, ok, bytes⟩ i rest h
  cases format with
  | step8 => exact decodeStep_readsItsCode h
  | mode2 =>
    cases bytes with
    | nil => cases h
    | cons w tail =>
      cases h
      exact decodeModeCode_readsItsCode ok w rest
  | byte8 =>
    cases bytes with
    | nil => cases h
    | cons b tail =>
      cases h
      exact decodeSentinel_readsItsCode ok b rest
  | map =>
    cases bytes with
    | nil => cases h
    | cons b tail =>
      cases h
      exact ⟨rfl, b, rest, rfl, rfl, rfl⟩

/-! ## Reserved words -/

theorem decode_reserved_word {w : Byte} (reserved : 6 ≤ w.toNat / 32) (ok : Bool) (rest : List Byte) :
    decode { format := .step8, calibOk := ok, bytes := w :: rest } = .reject .reservedSelector := by
  simp only [decode, decodeStep, decodeSelector_reserved reserved]

theorem selectorWord_toNat (k : BitVec 3) (m : Pins) (s : State) :
    (selectorWord k m s).toNat =
      k.toNat * 32 + (flagF s).toNat * 16 + (flagW s).toNat * 8 + (flagL s).toNat * 4 + m.toNat := by
  simp only [selectorWord]
  generalize flagF s = f
  generalize flagW s = w
  generalize flagL s = l
  revert k m f w l
  decide

theorem decode_fetch_reserved (k0 : Bool) (s : State) :
    decode (fetch (.reserved k0) s) = .reject .reservedSelector := by
  refine decode_reserved_word ?_ true []
  have kind : 6 ≤ ((0b11 : BitVec 2) ++ BitVec.ofBool k0).toNat := by cases k0 <;> decide
  rw [selectorWord_toNat]
  omega

theorem runRequest_reserved (k0 : Bool) (s : State) : runRequest (.reserved k0) s = .refused .reservedSelector := by
  simp only [runRequest, decode_fetch_reserved, refusalOf]

/-- Settles O4: a reserved word has no row, and the request of a reserved kind gives such a word in every state. -/
theorem reservedWordsAreRefused : Obligations.ReservedWordsAreRefused := by
  unfold Obligations.ReservedWordsAreRefused
  refine ⟨fun _ ok rest reserved => decode_reserved_word reserved ok rest, runRequest_reserved, fun r => ?_, fun r n => ?_⟩
  · simp [refusalCode]
  · simp only [refusalCode]
    split
    · exact fun one => (Option.some.inj one).symm
    · exact nofun

/-! ## The fields of a selector word, and words written out -/

/-- Settles O8 by `selectorWord_toNat`. -/
theorem selectorWordFields : Obligations.SelectorWordFields := by
  unfold Obligations.SelectorWordFields
  intro k m s
  rw [selectorWord_toNat]
  simp only [flagF, flagL, flagW, Bool.toNat, Bool.cond_eq_ite, ite_mul, one_mul, zero_mul, decide_eq_true_eq]

/-- Settles O7: the decoder computes each of the words. -/
theorem wordsDecodeAsTheSpecSays : Obligations.WordsDecodeAsTheSpecSays := by
  unfold Obligations.WordsDecodeAsTheSpecSays
  decide

end Sys2Proof.Machine
end

section
/-! Proofs about the invariant of the node (10_state.md R33 to R35, 41_servo_mapper.md R78, 60_exceptions.md R128): each
named update keeps it under the condition of its row, so every instruction and every step does. -/

namespace Sys2Proof.Machine

/-! ## The idle poll -/

/-- An idle poll writes the flag, the latch, the status LED, the mode-out pins and the history only. -/
theorem pollIdle_eq (s : State) :
    s.pollIdle = { s with
      modeOut := 0
      idleLatch := false
      isFirst := s.isFirst || s.idleLatch
      statusLed := if s.idleLatch then !s.statusLed else s.params.statusFixedLevel
      hist := s.pollIdle.hist } := by
  cases latch : s.idleLatch with
  | true => simp [pollIdle_hit s latch]
  | false => simp [pollIdle_miss s latch, ← latch]

/-! ## The updates keep the invariant -/

/-- In RUN nothing is asked of a halted node. -/
theorem haltedAsBooted_of_run {s : State} (running : s.phase = .run) : s.haltedAsBooted := by
  intro halted
  rw [running] at halted
  cases halted

theorem boot_inv {s : State} (legal : s.params.wf) (ok : Bool) : (s.boot ok).Inv := by
  refine ⟨legal, ?_, nofun, fun _ => rfl, fun shown => absurd rfl shown, .inl rfl, fun _ => ⟨rfl, rfl, rfl, rfl, rfl, rfl⟩⟩
  exact legal.1

/-- Below a legal period a TICK_COUNT's increment does not wrap (42_link_timeout.md R79, R34). -/
theorem linkCnt_succ_toNat {s : State} (legal : s.params.linkPeriod ≤ 65536) (below : s.counterBelowPeriod)
    (counts : s.linkCnt.toNat + 1 ≠ s.params.linkPeriod) : (s.linkCnt + 1).toNat = s.linkCnt.toNat + 1 := by
  have no_overflow : s.linkCnt.toNat + 1 < 2 ^ 16 := by omega
  simpa using BitVec.toNat_add_of_lt (y := 1#16) no_overflow

section Running

variable {s : State} (running : s.phase = .run) (inv : s.Inv)
include running inv

theorem rxArrive_inv (b : Byte) : State.Inv { s with rxBuf := b, rxPending := true, report := .taken } := by
  obtain ⟨legal, below, wait, strip, servo, tells, -⟩ := inv
  exact ⟨legal, below, wait, strip, servo, tells, haltedAsBooted_of_run running⟩

theorem tickCount_inv (counts : flagW s = false) :
    State.Inv { s with linkCnt := s.linkCnt + 1, report := .taken } := by
  obtain ⟨legal, below, wait, strip, servo, tells, -⟩ := inv
  have not_last : s.linkCnt.toNat + 1 ≠ s.params.linkPeriod := fun last => by simp [(flagW_iff s).2 last] at counts
  have below' : (s.linkCnt + 1).toNat < s.params.linkPeriod := by
    rw [linkCnt_succ_toNat legal.2 below not_last]
    omega
  exact ⟨legal, below', wait, strip, servo, tells, haltedAsBooted_of_run running⟩

theorem tickWrap_inv : State.Inv { s with linkCnt := 0, idleLatch := true, report := .taken } := by
  obtain ⟨legal, -, wait, strip, servo, tells, -⟩ := inv
  exact ⟨legal, legal.1, wait, strip, servo, tells, haltedAsBooted_of_run running⟩

/-- Accepting puts the servo, the strip and the stored byte in step, whatever they were. -/
theorem accept_inv (b : Byte) : (s.enterHandler.accept b).Inv := by
  obtain ⟨legal, -⟩ := inv
  rw [accept_eq]
  exact ⟨legal, legal.1, fun _ => rfl, nofun, fun _ => rfl, .inr (.inr rfl), haltedAsBooted_of_run running⟩

theorem startForward_inv (mid_transfer : s.isFirst = false) (b : Byte) : (s.enterHandler.startForward b).Inv := by
  obtain ⟨legal, below, -, strip, servo, tells, -⟩ := inv
  exact ⟨legal, below, fun _ => mid_transfer, strip, servo, tells, haltedAsBooted_of_run running⟩

/-- A byte waits mid-transfer only, so the strip was driven before and the servo follows the stored byte already. -/
theorem finishForward_inv {b : Byte} (waiting : s.fwdWait = some b) : (s.finishForward b).Inv := by
  obtain ⟨legal, -, wait, strip, servo, -⟩ := inv
  have mid_transfer : s.isFirst = false := wait (by simp [waiting])
  have driven : s.stripColor ≠ none := fun undriven => by simp [strip undriven] at mid_transfer
  rw [finishForward_eq]
  exact ⟨legal, legal.1, nofun, nofun, fun _ => servo driven, .inr (.inl rfl), haltedAsBooted_of_run running⟩

theorem pollIdle_inv (no_wait : s.fwdWait = none) : s.pollIdle.Inv := by
  obtain ⟨legal, below, -, strip, servo, tells, -⟩ := inv
  rw [pollIdle_eq]
  refine ⟨legal, below, fun waiting => ?_, fun undriven => ?_, servo, tells, haltedAsBooted_of_run running⟩
  · simp [no_wait] at waiting
  · simp [strip undriven]

theorem writeModeOut_inv (m : Pins) : (s.writeModeOut m).Inv := by
  obtain ⟨legal, below, wait, strip, servo, tells, -⟩ := inv
  exact ⟨legal, below, wait, strip, servo, tells, haltedAsBooted_of_run running⟩

end Running

/-- The report and the agenda are the model's own fields: the invariant does not read them. -/
theorem reporting_inv {s : State} (r : Report) (inv : s.Inv) : (s.reporting r).Inv := inv

theorem takeRequest_inv {s : State} (inv : s.Inv) : (takeRequest s).Inv := by
  rw [takeRequest_eq]
  exact inv

/-! ## Every instruction and every step keeps the invariant -/

theorem exec_keeps_inv {i : Instr} {s t : State} (inv : s.Inv) (h : exec i s = .next t) : t.Inv := by
  obtain ⟨ok, -, rfl⟩ | ⟨r, rfl⟩ | ⟨running, row⟩ := exec_next_cases h
  · exact boot_inv inv.1 ok
  · exact inv
  · obtain ⟨b, -, rfl⟩ | ⟨-, counts, rfl⟩ | ⟨-, -, rfl⟩ | ⟨-, -, -, -, rfl⟩ | ⟨-, -, -, mid_transfer, rfl⟩ |
      ⟨b, -, waiting, rfl⟩ | ⟨-, no_wait, -, rfl⟩ | ⟨-, no_wait, -, rfl⟩ | ⟨-, -, rfl⟩ | ⟨-, -, rfl⟩ | ⟨-, -, rfl⟩ := row
    · exact rxArrive_inv running inv b
    · exact tickCount_inv running inv counts
    · exact tickWrap_inv running inv
    · exact reporting_inv _ (accept_inv running inv _)
    · exact reporting_inv _ (startForward_inv running inv mid_transfer _)
    · exact reporting_inv _ (finishForward_inv running inv waiting)
    · exact reporting_inv _ (pollIdle_inv running inv no_wait)
    · exact reporting_inv _ (pollIdle_inv running inv no_wait)
    all_goals exact reporting_inv _ (writeModeOut_inv running inv _)

/-- Settles O44: a step is exec in the state without the request taken, and each row keeps the invariant. -/
theorem stepKeepsInvariant : Obligations.StepKeepsInvariant := by
  unfold Obligations.StepKeepsInvariant
  intro s t inv h
  obtain ⟨i, -, -, ran⟩ := runRequest_next h
  exact exec_keeps_inv (takeRequest_inv inv) ran

/-- Settles O45: State.reset by computing its fields, a RESET by `boot_inv`. -/
theorem resetEstablishesInvariant : Obligations.ResetEstablishesInvariant := by
  unfold Obligations.ResetEstablishesInvariant
  refine ⟨by decide, fun ok s t legal h => ?_⟩
  cases h
  exact boot_inv legal ok

end Sys2Proof.Machine
end

section
/-! Proofs about one operation as a step (40_step_model.md R63 to R69): the row its word selects, its effect where it is
enabled, and what it answers where it is not. -/

namespace Sys2Proof.Machine

/-! ## The row of each operation -/

theorem decode_fetch_reset_op (ok : Bool) (s : State) : decode (fetch (.op (.reset ok)) s) = .ok (.reset ok) [] := by
  have row : decodeSelector (selectorWord 0b000 0 s) = some .reset := by
    simp only [selectorWord]
    cases flagF s <;> cases flagW s <;> cases flagL s <;> decide
  simp only [decode, fetch, decodeStep, row]

/-- Within kind 010 the branch bit W selects the row: F and L are don't-care bits (30_encoding.md R56, R58). -/
theorem decode_fetch_tick (s : State) :
    decode (fetch (.op .tick) s) = .ok (if flagW s then .tickWrap else .tickCount) [] := by
  have row : decodeSelector (selectorWord (kindOf .tick) (modeFieldOf .tick) s) =
      some (if flagW s then .tickWrap else .tickCount) := by
    simp only [selectorWord]
    cases flagF s <;> cases flagW s <;> cases flagL s <;> decide
  simp only [decode, fetch, decodeStep, row]
  cases flagW s <;> rfl

theorem decode_fetch_txIssue (s : State) : decode (fetch (.op .txIssue) s) = .ok .txIssue [] := by
  have row : decodeSelector (selectorWord (kindOf .txIssue) (modeFieldOf .txIssue) s) = some .txIssue := by
    simp only [selectorWord]
    cases flagF s <;> cases flagW s <;> cases flagL s <;> decide
  simp only [decode, fetch, decodeStep, row]

theorem decode_fetch_tick_wraps_iff (s : State) :
    decode (fetch (.op .tick) s) = .ok .tickWrap [] ↔ s.linkCnt.toNat + 1 = s.params.linkPeriod := by
  rw [decode_fetch_tick, ← flagW_iff]
  cases flagW s <;> simp

/-- Settles O9: each operation by the lemma on its row. -/
theorem operationSelectsItsRow : Obligations.OperationSelectsItsRow := by
  unfold Obligations.OperationSelectsItsRow
  intro s
  obtain ⟨fwd_a, fwd_b, fwd_both⟩ := decode_fetch_poll_fwd s
  refine ⟨fun ok => decode_fetch_reset_op ok s, fun b => decode_fetch_rxArrive b s, ?_, decode_fetch_rxService s,
    decode_fetch_txIssue s, decode_fetch_poll_idle s, fwd_a, fwd_b, fwd_both⟩
  simp only [decode_fetch_tick, flagW_iff]

/-! ## The effect of an enabled operation -/

/-- A tick: the counter's next place in its period (42_link_timeout.md R79, R80). -/
def State.ticked (s : State) : State :=
  if flagW s then { s with linkCnt := 0, idleLatch := true } else { s with linkCnt := s.linkCnt + 1 }

/-- A receive service: accept or forward, by the first-byte flag (44_relay_arbiter.md R94). -/
def State.serviced (s : State) : State :=
  if s.isFirst then s.enterHandler.accept s.rxBuf else s.enterHandler.startForward s.rxBuf

/-- A poll: with both pins low the idle check, else the mode-out pins alone (44_relay_arbiter.md R104 to R109). -/
def State.polled (s : State) (p0 p1 : Bool) : State :=
  if p0 || p1 then s.writeModeOut (pins p0 p1) else s.pollIdle

/-- The effect of an operation where it is enabled (40_step_model.md R63). -/
def effect (o : Op) (s : State) : State :=
  match o with
  | .reset ok => s.boot ok
  | .rxArrive b => { s with rxBuf := b, rxPending := true }
  | .tick => s.ticked
  | .rxService => s.serviced
  | .txIssue => s.finishForward (s.fwdWait.getD 0)
  | .poll p0 p1 => s.polled p0 p1

theorem ticked_of_wrap {s : State} (wraps : flagW s = true) : s.ticked = { s with linkCnt := 0, idleLatch := true } := by
  simp [State.ticked, wraps]

theorem ticked_of_count {s : State} (counts : flagW s = false) : s.ticked = { s with linkCnt := s.linkCnt + 1 } := by
  simp [State.ticked, counts]

theorem serviced_of_first {s : State} (first : s.isFirst = true) : s.serviced = s.enterHandler.accept s.rxBuf := by
  simp [State.serviced, first]

theorem serviced_of_mid_transfer {s : State} (mid_transfer : s.isFirst = false) :
    s.serviced = s.enterHandler.startForward s.rxBuf := by
  simp [State.serviced, mid_transfer]

/-- The condition of an operation in RUN (R64 to R69). -/
def ready (o : Op) (s : State) : Bool :=
  match o with
  | .reset _ | .rxArrive _ | .tick => true
  | .rxService => rxServiceReady s
  | .txIssue => txIssueReady s
  | .poll _ _ => pollReady s

theorem stepOp_reset (ok : Bool) (s : State) : stepOp (.reset ok) s = .next ((s.boot ok).reporting .taken) :=
  runRequest_of_decode (decode_fetch_reset_op ok s)

theorem stepOp_tick (s : State) : stepOp .tick s = whenReady s true s.ticked := by
  refine (runRequest_of_decode (decode_fetch_tick s)).trans ?_
  cases branch : flagW s with
  | true => simp [exec, execTickWrap, ticked_of_wrap, branch]
  | false => simp [exec, execTickCount, ticked_of_count, branch]

theorem stepOp_rxService_eq (s : State) : stepOp .rxService s = whenReady s (rxServiceReady s) s.serviced := by
  rw [stepOp_rxService]
  cases first : s.isFirst with
  | true => simp [exec, execRxAccept, flagF, serviced_of_first, first]
  | false => simp [exec, execRxForward, flagF, serviced_of_mid_transfer, first]

theorem stepOp_txIssue (s : State) :
    stepOp .txIssue s = whenReady s (txIssueReady s) (s.finishForward (s.fwdWait.getD 0)) :=
  runRequest_of_decode (decode_fetch_txIssue s)

theorem stepOp_poll (p0 p1 : Bool) (s : State) : stepOp (.poll p0 p1) s = whenReady s (pollReady s) (s.polled p0 p1) := by
  obtain ⟨fwd_a, fwd_b, fwd_both⟩ := decode_fetch_poll_fwd s
  cases p0 with
  | false =>
    cases p1 with
    | false =>
      cases latch : s.idleLatch with
      | true => rw [stepOp_poll_idle_of_set latch]; simp [exec, execPollIdleHit, flagL, latch, State.polled]
      | false => rw [stepOp_poll_idle_of_clear latch]; simp [exec, execPollIdleMiss, flagL, latch, State.polled]
    | true => exact runRequest_of_decode fwd_a
  | true =>
    cases p1 with
    | false => exact runRequest_of_decode fwd_b
    | true => exact runRequest_of_decode fwd_both

/-- An operation other than RESET has the one form of a step: its effect under its condition. -/
theorem stepOp_eq_whenReady {o : Op} (no_reset : ∀ ok, o ≠ .reset ok) (s : State) :
    stepOp o s = whenReady s (ready o s) (effect o s) := by
  cases o with
  | reset ok => exact absurd rfl (no_reset ok)
  | rxArrive b => exact stepOp_rxArrive b s
  | tick => exact stepOp_tick s
  | rxService => exact stepOp_rxService_eq s
  | txIssue => exact stepOp_txIssue s
  | poll p0 p1 => exact stepOp_poll p0 p1 s

theorem enabled_iff_ready {o : Op} (no_reset : ∀ ok, o ≠ .reset ok) (s : State) :
    Enabled o s = true ↔ s.phase = .run ∧ ready o s = true := by
  cases o with
  | reset ok => exact absurd rfl (no_reset ok)
  | rxArrive | tick | rxService | txIssue | poll => simp [Enabled, ready]

/-! ## What an operation answers -/

theorem stepOp_of_enabled {o : Op} {s : State} (enabled : Enabled o s = true) :
    stepOp o s = .next ((effect o s).reporting .taken) := by
  by_cases reset : ∃ ok, o = .reset ok
  · obtain ⟨ok, rfl⟩ := reset
    exact stepOp_reset ok s
  · have no_reset : ∀ ok, o ≠ .reset ok := not_exists.1 reset
    obtain ⟨running, can⟩ := (enabled_iff_ready no_reset s).1 enabled
    rw [stepOp_eq_whenReady no_reset, whenReady_run running, if_pos can, taken]

theorem not_reset_of_disabled {o : Op} {s : State} (disabled : Enabled o s = false) (ok : Bool) : o ≠ .reset ok := by
  rintro rfl
  cases disabled

theorem stepOp_of_disabled_run {o : Op} {s : State} (disabled : Enabled o s = false) (running : s.phase = .run) :
    stepOp o s = .next (s.reporting .noStep) := by
  have no_reset := not_reset_of_disabled disabled
  have not_ready : ¬ready o s = true := fun can => by
    simp [(enabled_iff_ready no_reset s).2 ⟨running, can⟩] at disabled
  rw [stepOp_eq_whenReady no_reset, whenReady_run running, if_neg not_ready, held]

theorem stepOp_of_halted {o : Op} {s : State} (no_reset : ∀ ok, o ≠ .reset ok) (halted : s.phase = .halted) :
    stepOp o s = .fault .clockCalibrationMissing := by
  rw [stepOp_eq_whenReady no_reset, whenReady_halted halted]

/-- What an operation that answers a next state did: its effect where it was enabled, else nothing, in RUN. -/
theorem stepOp_next_cases {o : Op} {s t : State} (h : stepOp o s = .next t) :
    (Enabled o s = true ∧ t = (effect o s).reporting .taken) ∨
      (Enabled o s = false ∧ s.phase = .run ∧ t = s.reporting .noStep) := by
  cases enabled : Enabled o s with
  | true =>
    rw [stepOp_of_enabled enabled] at h
    cases h
    exact .inl ⟨rfl, rfl⟩
  | false =>
    cases phase : s.phase with
    | halted =>
      rw [stepOp_of_halted (not_reset_of_disabled enabled) phase] at h
      cases h
    | run =>
      rw [stepOp_of_disabled_run enabled phase] at h
      cases h
      exact .inr ⟨rfl, rfl, rfl⟩

theorem stepOp_taken {o : Op} {s t : State} (h : stepOp o s = .next t) (reported : t.report = .taken) :
    Enabled o s = true ∧ t = (effect o s).reporting .taken := by
  obtain done | ⟨-, -, rfl⟩ := stepOp_next_cases h
  · exact done
  · cases reported

/-- Settles O12 by the three answers of an operation. -/
theorem enabledOperationsAreTaken : Obligations.EnabledOperationsAreTaken := by
  unfold Obligations.EnabledOperationsAreTaken
  exact fun o s => ⟨fun enabled => ⟨_, stepOp_of_enabled enabled, rfl⟩, stepOp_of_disabled_run,
    fun disabled halted => stepOp_of_halted (not_reset_of_disabled disabled) halted⟩

/-! ## When an operation is enabled -/

theorem enabled_txIssue_iff (s : State) : Enabled .txIssue s = true ↔ s.phase = .run ∧ ∃ b, s.fwdWait = some b := by
  simp [Enabled, txIssueReady_iff]

theorem enabled_poll_iff (p0 p1 : Bool) (s : State) :
    Enabled (.poll p0 p1) s = true ↔ s.phase = .run ∧ s.fwdWait = none := by
  simp [Enabled, pollReady_iff]

/-- An arrival and a tick have no condition but RUN (R64, R65). -/
theorem enabled_arrival_or_tick {o : Op} {s : State} (unconditional : o = .tick ∨ ∃ b, o = .rxArrive b)
    (running : s.phase = .run) : Enabled o s = true := by
  obtain rfl | ⟨b, rfl⟩ := unconditional <;> simp [Enabled, running]

/-- Settles O16: the conditions of TX_ISSUE and POLL exclude each other and leave no third case. -/
theorem runningNodeAlwaysHasAStep : Obligations.RunningNodeAlwaysHasAStep := by
  unfold Obligations.RunningNodeAlwaysHasAStep
  intro s running
  refine ⟨fun waiting => ⟨?_, fun p0 p1 => ?_⟩, fun no_wait => ⟨?_, fun p0 p1 => ?_⟩⟩
  · exact (enabled_txIssue_iff s).2 ⟨running, Option.ne_none_iff_exists'.1 waiting⟩
  · exact Bool.eq_false_iff.2 fun enabled => waiting ((enabled_poll_iff p0 p1 s).1 enabled).2
  · exact Bool.eq_false_iff.2 fun enabled => by simp [enabled_txIssue_iff, no_wait] at enabled
  · exact (enabled_poll_iff p0 p1 s).2 ⟨running, no_wait⟩

/-- Settles O18: a failed RESET leaves HALTED, where only RESET is enabled. -/
theorem haltedBootNeedsReset : Obligations.HaltedBootNeedsReset := by
  unfold Obligations.HaltedBootNeedsReset
  intro s
  exact ⟨_, stepOp_reset false s, rfl, fun o no_reset => stepOp_of_halted no_reset rfl, _, stepOp_reset true _, rfl, rfl⟩

end Sys2Proof.Machine
end

section
/-! Proofs about one step and about what each row answers where it is enabled (40_step_model.md R63, 60_exceptions.md
R114, R121, and the rules of the rows). -/

namespace Sys2Proof.Machine

/-! ## The three answers of an instruction -/

/-- Every instruction's meaning is a next state from any state, or the form of a step that waits for its condition. -/
theorem exec_next_or_whenReady (i : Instr) (s : State) :
    (∃ t, exec i s = .next t) ∨ ((∀ ok, i ≠ .reset ok) ∧ ∃ r u, exec i s = whenReady s r u) := by
  cases i with
  | rxArrive | tickCount | tickWrap | rxForward | rxAccept | txIssue | pollIdleMiss | pollIdleHit | pollFwdA | pollFwdB
  | pollFwdBoth => exact .inr ⟨nofun, _, _, rfl⟩
  | _ => exact .inl ⟨_, rfl⟩

theorem exec_next_of_run (i : Instr) {s : State} (running : s.phase = .run) : ∃ t, exec i s = .next t := by
  obtain next | ⟨-, r, u, form⟩ := exec_next_or_whenReady i s
  · exact next
  · rw [form, whenReady_run running]
    cases r with
    | true => exact ⟨_, rfl⟩
    | false => exact ⟨_, rfl⟩

theorem exec_not_refused (i : Instr) (s : State) (q : Refusal) : exec i s ≠ .refused q := by
  obtain ⟨t, next⟩ | ⟨-, r, u, form⟩ := exec_next_or_whenReady i s
  · rw [next]
    nofun
  · rw [form]
    exact whenReady_not_refused s u r q

theorem exec_fault {i : Instr} {s : State} {f : Fault} (h : exec i s = .fault f) :
    s.phase = .halted ∧ f = .clockCalibrationMissing ∧ ∀ ok, i ≠ .reset ok := by
  obtain ⟨t, next⟩ | ⟨no_reset, r, u, form⟩ := exec_next_or_whenReady i s
  · rw [next] at h
    cases h
  · rw [form] at h
    obtain ⟨halted, missing⟩ := whenReady_fault h
    exact ⟨halted, missing, no_reset⟩

/-- Settles O14 by the two forms an instruction's meaning has. -/
theorem noInstructionTrapsInRun : Obligations.NoInstructionTrapsInRun := by
  unfold Obligations.NoInstructionTrapsInRun
  refine ⟨fun i _ running => exec_next_of_run i running, exec_not_refused, fun i s f h => ?_⟩
  obtain ⟨halted, rfl, no_reset⟩ := exec_fault h
  exact ⟨halted, rfl, rfl, no_reset⟩

/-! ## One step -/

theorem runRequest_of_reject {r : Request} {s : State} {why : Reject} (rejected : decode (fetch r s) = .reject why) :
    runRequest r s = .refused (refusalOf why) := by
  simp only [runRequest, rejected]

/-- Settles O10: a step runs its request, and the two ways of taking one are `takeRequest`'s two cases. -/
theorem stepRunsTheDecodedInstruction : Obligations.StepRunsTheDecodedInstruction := by
  unfold Obligations.StepRunsTheDecodedInstruction
  exact ⟨fun _ _ _ decoded => runRequest_of_decode decoded, fun _ _ rejected => runRequest_of_reject rejected,
    fun _ _ _ listed => takeRequest_cons listed, fun _ none_listed => takeRequest_nil none_listed⟩

/-- A request supplies all the bytes of its word, so only a reserved kind has none to run. -/
theorem decode_fetch_ok {r : Request} (legal : ∀ k0, r ≠ .reserved k0) (s : State) :
    ∃ i, decode (fetch r s) = .ok i [] := by
  cases r with
  | reserved k0 => exact absurd rfl (legal k0)
  | decodeMode | colorOf | mapServo => exact ⟨_, rfl⟩
  | op o =>
    cases o with
    | reset ok => exact ⟨_, decode_fetch_reset_op ok s⟩
    | rxArrive b => exact ⟨_, decode_fetch_rxArrive b s⟩
    | tick => exact ⟨_, decode_fetch_tick s⟩
    | rxService => exact ⟨_, decode_fetch_rxService s⟩
    | txIssue => exact ⟨_, decode_fetch_txIssue s⟩
    | poll p0 p1 =>
      obtain ⟨fwd_a, fwd_b, fwd_both⟩ := decode_fetch_poll_fwd s
      cases p0 with
      | false =>
        cases p1 with
        | false => exact ⟨_, decode_fetch_poll_idle s⟩
        | true => exact ⟨_, fwd_a⟩
      | true =>
        cases p1 with
        | false => exact ⟨_, fwd_b⟩
        | true => exact ⟨_, fwd_both⟩

theorem runRequest_not_refused {r : Request} (legal : ∀ k0, r ≠ .reserved k0) (s : State) (q : Refusal) :
    runRequest r s ≠ .refused q := by
  obtain ⟨i, decoded⟩ := decode_fetch_ok legal s
  rw [runRequest_of_decode decoded]
  exact exec_not_refused i s q

/-- Settles O15: a reserved kind is refused in every state, and every other request decodes to an instruction. -/
theorem stepRefusesOnlyReservedWords : Obligations.StepRefusesOnlyReservedWords := by
  unfold Obligations.StepRefusesOnlyReservedWords
  intro s q
  constructor
  · intro refused
    by_cases reserved : ∃ k0, nextRequest s = .reserved k0
    · refine ⟨?_, reserved⟩
      obtain ⟨k0, next⟩ := reserved
      rw [step, next, runRequest_reserved] at refused
      cases refused
      rfl
    · exact absurd refused (runRequest_not_refused (not_exists.1 reserved) _ q)
  · rintro ⟨rfl, k0, next⟩
    rw [step, next, runRequest_reserved]

/-! ## Results of the rows -/

/-- Settles O17: RESET has no condition, and its fields are those of `boot`. -/
theorem resetResult : Obligations.ResetResult := by
  unfold Obligations.ResetResult
  exact fun ok s => ⟨(s.boot ok).reporting .taken, rfl, rfl, rfl, rfl, rfl, rfl, rfl, rfl, rfl, rfl, rfl, rfl, rfl⟩

/-- Settles O19: an arrival has no condition but RUN. -/
theorem rxArriveResult : Obligations.RxArriveResult := by
  unfold Obligations.RxArriveResult
  exact fun _ _ running => whenReady_run running true _

theorem exec_tickCount_counts {s : State} (running : s.phase = .run) (counts : flagW s = false) :
    exec .tickCount s = .next (State.reporting { s with linkCnt := s.linkCnt + 1 } .taken) := by
  simp [exec, execTickCount, whenReady_run running, counts, taken]

theorem exec_tickWrap_wraps {s : State} (running : s.phase = .run) (wraps : flagW s = true) :
    exec .tickWrap s = .next (State.reporting { s with linkCnt := 0, idleLatch := true } .taken) := by
  simp [exec, execTickWrap, whenReady_run running, wraps, taken]

theorem flagW_false_iff (s : State) : flagW s = false ↔ s.linkCnt.toNat + 1 ≠ s.params.linkPeriod := by
  rw [← Bool.not_eq_true, flagW_iff]

/-- Settles O20: the branch bit W is clear, and below a legal period the increment is exact. -/
theorem tickCountResult : Obligations.TickCountResult := by
  unfold Obligations.TickCountResult
  intro s running counts
  exact ⟨exec_tickCount_counts running ((flagW_false_iff s).2 counts),
    fun below legal => linkCnt_succ_toNat legal below counts⟩

/-- Settles O21: the branch bit W is set. -/
theorem tickWrapResult : Obligations.TickWrapResult := by
  unfold Obligations.TickWrapResult
  exact fun s running wraps => exec_tickWrap_wraps running ((flagW_iff s).2 wraps)

/-- Settles O22: the row is enabled, its effect is the accept branch, and the servo value is the mapper's. -/
theorem rxAcceptResult : Obligations.RxAcceptResult := by
  unfold Obligations.RxAcceptResult
  intro s running pending no_wait first
  have value : BitVec.ofNat 16 (15 * s.rxBuf.toNat + 4000) = mapServo s.rxBuf := by rw [mapServo, Nat.mul_comm]
  rw [exec_rxAccept_ready running pending no_wait first, accept_eq, value]
  rfl

/-- Settles O23: the row is enabled, and its effect is one record update. -/
theorem rxForwardResult : Obligations.RxForwardResult := by
  unfold Obligations.RxForwardResult
  intro s running pending no_wait mid_transfer
  rw [exec_rxForward_ready running pending no_wait mid_transfer]
  rfl

/-- Settles O24: the row is enabled, and its effect is the forward branch after the wait. -/
theorem txIssueResult : Obligations.TxIssueResult := by
  unfold Obligations.TxIssueResult
  intro b s running waiting
  rw [exec_txIssue_waiting running waiting, finishForward_eq]
  rfl

/-- Settles O27: the row is enabled, and `pollIdle_miss` is its update. -/
theorem pollIdleMissResult : Obligations.PollIdleMissResult := by
  unfold Obligations.PollIdleMissResult
  intro s running no_wait clear
  rw [exec_pollIdleMiss_ready running no_wait clear, pollIdle_miss s clear]
  rfl

/-- Each forward row in RUN with no byte waiting writes the mode-out pins with its own code. -/
theorem exec_pollFwd_ready {s : State} (running : s.phase = .run) (no_wait : s.fwdWait = none) :
    exec .pollFwdA s = .next ((s.writeModeOut 0b01).reporting .taken) ∧
    exec .pollFwdB s = .next ((s.writeModeOut 0b10).reporting .taken) ∧
    exec .pollFwdBoth s = .next ((s.writeModeOut 0b11).reporting .taken) := by
  have can : pollReady s = true := (pollReady_iff s).2 no_wait
  simp [exec, execPollFwdA, execPollFwdB, execPollFwdBoth, whenReady_run running, can, taken, State.pollCommon]

/-- Settles O28: the three rows have one form, `writeModeOut`. -/
theorem pollForwardResults : Obligations.PollForwardResults := by
  unfold Obligations.PollForwardResults
  exact fun _ running no_wait => exec_pollFwd_ready running no_wait

/-! ## The mode-out pins of a poll -/

@[simp] theorem State.pollIdle_modeOut (s : State) : s.pollIdle.modeOut = 0 := by
  rw [pollIdle_eq]

@[simp] theorem State.polled_modeOut (s : State) (p0 p1 : Bool) : (s.polled p0 p1).modeOut = pins p0 p1 := by
  cases p0 <;> cases p1 <;> simp [State.polled]

/-- The first event of a poll is its mode-out pair, in every mode (44_relay_arbiter.md R104). -/
theorem polled_hist (s : State) (p0 p1 : Bool) :
    ∃ es, (s.polled p0 p1).hist = s.hist ++ .modeOut (pins p0 p1) :: es := by
  unfold State.polled
  split
  · exact ⟨[], by simp⟩
  · rename_i both_low
    obtain ⟨rfl, rfl⟩ : p0 = false ∧ p1 = false := by simpa using both_low
    exact ⟨_, by rw [State.pollIdle_hist, pins_zero]⟩

/-- Settles O29: an enabled poll has the effect `polled`, in every mode. -/
theorem everyPollMirrorsThePins : Obligations.EveryPollMirrorsThePins := by
  unfold Obligations.EveryPollMirrorsThePins
  intro p0 p1 s running no_wait
  obtain ⟨es, emitted⟩ := polled_hist s p0 p1
  obtain ⟨high, low⟩ := pins_getLsbD p0 p1
  have mirrored : ((effect (.poll p0 p1) s).reporting .taken).modeOut = pins p0 p1 := State.polled_modeOut s p0 p1
  refine ⟨_, es, stepOp_of_enabled ((enabled_poll_iff p0 p1 s).2 ⟨running, no_wait⟩), rfl, ?_, ?_, ?_⟩
  · rw [mirrored, high]
  · rw [mirrored, low]
  · rw [mirrored]
    exact emitted

/-! ## The servo mapper's laws -/

/-- Settles O31: the exact value `mapServo_toNat` turns each law into linear arithmetic. -/
theorem mapServoLaws : Obligations.MapServoLaws := by
  unfold Obligations.MapServoLaws
  refine ⟨fun b c less => ?_, fun b c next => ?_, fun b => ?_, mapServo_legal, fun b c same => BitVec.eq_of_toNat_eq ?_⟩
  · rw [mapServo_toNat, mapServo_toNat]
    omega
  · rw [mapServo_toNat, mapServo_toNat]
    omega
  · rw [mapServo_toNat]
    omega
  · have values : (mapServo b).toNat = (mapServo c).toNat := congrArg BitVec.toNat same
    rw [mapServo_toNat, mapServo_toNat] at values
    omega

/-! ## The link reset -/

/-- Settles O35: the link reset is one record update, whose second application finds it done. -/
theorem linkResetIsIdempotent : Obligations.LinkResetIsIdempotent := by
  unfold Obligations.LinkResetIsIdempotent
  intro s
  refine ⟨rfl, ?_, fun clear => ?_, fun clears => ?_⟩
  · cases clears : s.params.rxClearsLatch <;> simp [State.linkReset, clears]
  · simp [clear]
  · simp [clears]

end Sys2Proof.Machine
end

section
/-! Proofs about a table word placed with `withFetchWord` (log entries 10 and 11): the request it stands for, in the state
prepared for it, decodes to the instruction the table word does. -/

namespace Sys2Proof.Machine

/-! ## The fixed bits of a table word that has a row -/

theorem tableWord_kind {w : Nat} {r : Selector} (row : decodeSelector (BitVec.ofNat 8 w) = some r) :
    w / 32 % 8 = r.pattern.toNat / 32 := by
  have kind := congrArg BitVec.toNat (decodeSelector_kind row)
  have small := r.pattern.isLt
  simp only [BitVec.extractLsb'_toNat, BitVec.toNat_ofNat, Nat.shiftRight_eq_div_pow] at kind
  omega

theorem tableWord_bit {w : Nat} {r : Selector} (row : decodeSelector (BitVec.ofNat 8 w) = some r) {j : Nat}
    (fixed : r.mask.getLsbD j = true) : w.testBit j = r.pattern.getLsbD j := by
  have in_word : j < 8 := BitVec.lt_of_getLsbD fixed
  rw [← (decodeSelector_iff _ r).1 row]
  simp only [BitVec.getLsbD_and, fixed, Bool.and_true, BitVec.getLsbD_ofNat, in_word, decide_true, Bool.true_and]

theorem mod_four_eq_zero {w : Nat} (low : w.testBit 0 = false) (high : w.testBit 1 = false) : w % 4 = 0 := by
  simp only [Nat.testBit_eq_decide_div_mod_eq, decide_eq_false_iff_not] at low high
  omega

/-! ## The request a selector word stands for, by its kind -/

section Kinds

variable {nbits w : Nat} (selector : ¬nbits < 8)
include selector

theorem requestOfWord_reset (kind : w / 32 % 8 = 0) : requestOfWord nbits w = .op (.reset true) := by
  simp only [requestOfWord, if_neg selector, kind]

theorem requestOfWord_rxArrive (kind : w / 32 % 8 = 1) :
    requestOfWord nbits w = .op (.rxArrive (BitVec.ofNat 8 (w / 256))) := by
  simp only [requestOfWord, if_neg selector, kind]

theorem requestOfWord_tick (kind : w / 32 % 8 = 2) : requestOfWord nbits w = .op .tick := by
  simp only [requestOfWord, if_neg selector, kind]

theorem requestOfWord_rxService (kind : w / 32 % 8 = 3) : requestOfWord nbits w = .op .rxService := by
  simp only [requestOfWord, if_neg selector, kind]

theorem requestOfWord_txIssue (kind : w / 32 % 8 = 4) : requestOfWord nbits w = .op .txIssue := by
  simp only [requestOfWord, if_neg selector, kind]

theorem requestOfWord_poll (kind : w / 32 % 8 = 5) :
    requestOfWord nbits w = .op (.poll (w.testBit 1) (w.testBit 0)) := by
  simp only [requestOfWord, if_neg selector, kind]

end Kinds

/-! ## The state prepared for a word -/

/-- The counter that gives the next tick the branch bit asked for, when the period leaves both (42_link_timeout.md R79). -/
theorem flagW_prepare_tick {nbits w : Nat} {s : State} (at_least : 2 ≤ s.params.linkPeriod)
    (at_most : s.params.linkPeriod ≤ 65536) (selector : ¬nbits < 8) (kind : w / 32 % 8 = 2) :
    flagW (prepare nbits w s) = w.testBit 3 := by
  simp only [prepare, if_neg selector, kind]
  cases asked : w.testBit 3 <;> cases present : flagW s <;>
    simp only [flagW, decide_eq_true_eq, decide_eq_false_iff_not, reduceIte, reduceCtorEq, Bool.false_eq_true] at present ⊢
  · exact present
  · have zero : (0 : Word).toNat = 0 := rfl
    omega
  · simp only [BitVec.toNat_ofNat]
    omega
  · exact present

theorem isFirst_prepare_rxService {nbits w : Nat} (selector : ¬nbits < 8) (kind : w / 32 % 8 = 3) (s : State) :
    (prepare nbits w s).isFirst = w.testBit 4 := by
  simp only [prepare, if_neg selector, kind]

theorem idleLatch_prepare_poll {nbits w : Nat} (selector : ¬nbits < 8) (kind : w / 32 % 8 = 5) (idle : w % 4 = 0)
    (s : State) : (prepare nbits w s).idleLatch = w.testBit 2 := by
  simp only [prepare, if_neg selector, kind, if_pos idle]

/-! ## The row of a placed word -/

/-- A word shorter than a byte is a mode code, whose two bits are the pins of the request it stands for. -/
theorem decodeModeCode_tableWord (w : Nat) :
    decodeModeCode ((pins (w.testBit 1) (w.testBit 0)).setWidth 8) = decodeModeCode (BitVec.ofNat 8 w) := by
  obtain ⟨high, low⟩ := pins_getLsbD (w.testBit 1) (w.testBit 0)
  simp only [decodeModeCode, BitVec.getLsbD_setWidth, BitVec.getLsbD_ofNat, high, low]

/-- The word of the request a selector word stands for selects, in the state prepared for it, the row the table word
does: the kind names the operation and the branch bits are put into the state. -/
theorem decode_fetch_prepared {nbits w : Nat} {s : State} {i : Instr} {rest : List Byte} (at_least : 2 ≤ s.params.linkPeriod)
    (at_most : s.params.linkPeriod ≤ 65536) (selector : ¬nbits < 8)
    (decoded : decodeStep true [BitVec.ofNat 8 w, BitVec.ofNat 8 (w / 256)] = .ok i rest) :
    decode (fetch (requestOfWord nbits w) (prepare nbits w s)) = .ok i [] := by
  cases row : decodeSelector (BitVec.ofNat 8 w) with
  | none => simp [decodeStep, row] at decoded
  | some r =>
    have kind := tableWord_kind row
    have bit {j : Nat} (fixed : r.mask.getLsbD j = true) := tableWord_bit row fixed
    simp only [decodeStep, row] at decoded
    cases r with
    | reset =>
      cases decoded
      rw [requestOfWord_reset selector kind, decode_fetch_reset_op]
    | rxArrive =>
      cases decoded
      rw [requestOfWord_rxArrive selector kind, decode_fetch_rxArrive]
    | tickCount | tickWrap =>
      cases decoded
      rw [requestOfWord_tick selector kind, decode_fetch_tick, flagW_prepare_tick at_least at_most selector kind,
        bit rfl]
      rfl
    | rxForward | rxAccept =>
      cases decoded
      rw [requestOfWord_rxService selector kind, decode_fetch_rxService, isFirst_prepare_rxService selector kind, bit rfl]
      rfl
    | txIssue =>
      cases decoded
      rw [requestOfWord_txIssue selector kind, decode_fetch_txIssue]
    | pollIdleMiss | pollIdleHit =>
      cases decoded
      have low : w.testBit 0 = false := bit rfl
      have high : w.testBit 1 = false := bit rfl
      rw [requestOfWord_poll selector kind, low, high, decode_fetch_poll_idle,
        idleLatch_prepare_poll selector kind (mod_four_eq_zero low high), bit rfl]
      rfl
    | pollFwdA | pollFwdB | pollFwdBoth =>
      cases decoded
      obtain ⟨fwd_a, fwd_b, fwd_both⟩ := decode_fetch_poll_fwd (prepare nbits w s)
      rw [requestOfWord_poll selector kind, bit (j := 0) rfl, bit (j := 1) rfl]
      assumption

/-- A placed word's request is the next one, and taking it leaves the state prepared for it. -/
theorem step_withFetchWord (s : State) (nbits w : Nat) :
    step (s.withFetchWord nbits w) = runRequest (requestOfWord nbits w) (prepare nbits w s) := rfl

/-- Settles O11: a mode code by its two bits, a selector word by `decode_fetch_prepared`. -/
theorem placedWordRunsNext : Obligations.PlacedWordRunsNext := by
  unfold Obligations.PlacedWordRunsNext
  intro s nbits w i at_least at_most decoded
  rw [step_withFetchWord]
  by_cases code : nbits < 8
  · simp only [decodeTableWord, decode, if_pos code, Option.some.injEq] at decoded
    simp only [requestOfWord, if_pos code]
    rw [runRequest_decodeMode, decodeModeCode_tableWord, decoded]
  · simp only [decodeTableWord, decode, if_neg code] at decoded
    cases answer : decodeStep true [BitVec.ofNat 8 w, BitVec.ofNat 8 (w / 256)] with
    | reject why => simp [answer] at decoded
    | ok i' rest =>
      obtain rfl : i' = i := by simpa [answer] using decoded
      exact runRequest_of_decode (decode_fetch_prepared at_least at_most code answer)

end Sys2Proof.Machine
end

section
/-! Proofs about the frames (10_state.md R14 to R28): which rows write which field of the node. -/

namespace Sys2Proof.Machine

/-! ## The fields under the composite updates -/

@[simp] theorem State.accept_rxBuf (s : State) (b : Byte) : (s.accept b).rxBuf = s.rxBuf := by simp [accept_eq]

@[simp] theorem State.finishForward_rxBuf (s : State) (b : Byte) : (s.finishForward b).rxBuf = s.rxBuf := by
  simp [finishForward_eq]

@[simp] theorem State.pollIdle_rxBuf (s : State) : s.pollIdle.rxBuf = s.rxBuf := by rw [pollIdle_eq]

@[simp] theorem State.accept_fwdWait (s : State) (b : Byte) : (s.accept b).fwdWait = s.fwdWait := by simp [accept_eq]

@[simp] theorem State.finishForward_fwdWait (s : State) (b : Byte) : (s.finishForward b).fwdWait = none := by
  simp [finishForward_eq]

@[simp] theorem State.accept_linkCnt (s : State) (b : Byte) : (s.accept b).linkCnt = 0 := by simp [accept_eq]

@[simp] theorem State.finishForward_linkCnt (s : State) (b : Byte) : (s.finishForward b).linkCnt = 0 := by
  simp [finishForward_eq]

@[simp] theorem State.pollIdle_linkCnt (s : State) : s.pollIdle.linkCnt = s.linkCnt := by rw [pollIdle_eq]

/-! ## The receive side under exec -/

theorem exec_rxBuf_cases {i : Instr} {s t : State} (h : exec i s = .next t) :
    t.rxBuf = s.rxBuf ∨ (∃ b, i = .rxArrive b ∧ t.rxBuf = b) ∨ ∃ ok, i = .reset ok := by
  obtain ⟨ok, hi, -⟩ | ⟨r, rfl⟩ | ⟨-, row⟩ := exec_next_cases h
  · exact .inr (.inr ⟨ok, hi⟩)
  · exact .inl (by simp)
  · obtain ⟨b, hi, rfl⟩ | ⟨-, -, rfl⟩ | ⟨-, -, rfl⟩ | ⟨-, -, -, -, rfl⟩ | ⟨-, -, -, -, rfl⟩ | ⟨b, -, -, rfl⟩ |
      ⟨-, -, -, rfl⟩ | ⟨-, -, -, rfl⟩ | ⟨-, -, rfl⟩ | ⟨-, -, rfl⟩ | ⟨-, -, rfl⟩ := row
    · exact .inr (.inl ⟨b, hi, rfl⟩)
    all_goals exact .inl (by simp)

theorem exec_fwdWait_cases {i : Instr} {s t : State} (h : exec i s = .next t) :
    t.fwdWait = s.fwdWait ∨ (i = .rxForward ∧ s.fwdWait = none ∧ t.fwdWait = some s.rxBuf) ∨
      ((i = .txIssue ∨ ∃ ok, i = .reset ok) ∧ t.fwdWait = none) := by
  obtain ⟨ok, hi, rfl⟩ | ⟨r, rfl⟩ | ⟨-, row⟩ := exec_next_cases h
  · exact .inr (.inr ⟨.inr ⟨ok, hi⟩, by simp⟩)
  · exact .inl (by simp)
  · obtain ⟨b, -, rfl⟩ | ⟨-, -, rfl⟩ | ⟨-, -, rfl⟩ | ⟨-, -, -, -, rfl⟩ | ⟨hi, -, no_wait, -, rfl⟩ | ⟨b, hi, -, rfl⟩ |
      ⟨-, -, -, rfl⟩ | ⟨-, -, -, rfl⟩ | ⟨-, -, rfl⟩ | ⟨-, -, rfl⟩ | ⟨-, -, rfl⟩ := row
    · exact .inl rfl
    · exact .inl rfl
    · exact .inl rfl
    · exact .inl (by simp)
    · exact .inr (.inl ⟨hi, no_wait, by simp⟩)
    · exact .inr (.inr ⟨.inl hi, by simp⟩)
    all_goals exact .inl (by simp)

/-- Settles O39: the writers of the three fields and the value each writes. -/
theorem receiveSideWriters : Obligations.ReceiveSideWriters := by
  unfold Obligations.ReceiveSideWriters
  refine fun i s t h => ⟨fun changed => ?_, fun before after => ?_, fun before after => ?_, fun b after before => ?_,
    fun before after => ?_⟩
  · obtain kept | written := exec_rxBuf_cases h
    · exact absurd kept changed
    · exact written
  · obtain kept | ⟨b, hi, -⟩ | ⟨-, -, cleared⟩ | ⟨ok, -, cleared⟩ := exec_rxPending_cases h
    · simp [before, after] at kept
    · exact ⟨b, hi⟩
    all_goals simp [after] at cleared
  · obtain kept | ⟨b, -, set⟩ | ⟨accept | forward, -, -⟩ | ⟨ok, hi, -⟩ := exec_rxPending_cases h
    · simp [before, after] at kept
    · simp [after] at set
    · exact .inl accept
    · exact .inr (.inl forward)
    · exact .inr (.inr ⟨ok, hi⟩)
  · obtain kept | ⟨hi, no_wait, taken_over⟩ | ⟨-, ended⟩ := exec_fwdWait_cases h
    · exact absurd (kept ▸ after) before
    · exact ⟨hi, Option.some.inj (after.symm.trans taken_over), no_wait⟩
    · simp [after] at ended
  · obtain kept | ⟨-, no_wait, -⟩ | ⟨hi, -⟩ := exec_fwdWait_cases h
    · exact absurd (kept ▸ after) before
    · exact absurd no_wait before
    · exact hi

/-! ## The Link Timeout Monitor under exec -/

theorem exec_linkCnt_cases {i : Instr} {s t : State} (h : exec i s = .next t) :
    t.linkCnt = s.linkCnt ∨ (i = .tickCount ∧ t.linkCnt = s.linkCnt + 1) ∨
      ((i = .tickWrap ∨ i = .rxAccept ∨ i = .txIssue ∨ ∃ ok, i = .reset ok) ∧ t.linkCnt = 0) := by
  obtain ⟨ok, hi, rfl⟩ | ⟨r, rfl⟩ | ⟨-, row⟩ := exec_next_cases h
  · exact .inr (.inr ⟨.inr (.inr (.inr ⟨ok, hi⟩)), by simp⟩)
  · exact .inl (by simp)
  · obtain ⟨b, -, rfl⟩ | ⟨hi, -, rfl⟩ | ⟨hi, -, rfl⟩ | ⟨hi, -, -, -, rfl⟩ | ⟨-, -, -, -, rfl⟩ | ⟨b, hi, -, rfl⟩ |
      ⟨-, -, -, rfl⟩ | ⟨-, -, -, rfl⟩ | ⟨-, -, rfl⟩ | ⟨-, -, rfl⟩ | ⟨-, -, rfl⟩ := row
    · exact .inl rfl
    · exact .inr (.inl ⟨hi, rfl⟩)
    · exact .inr (.inr ⟨.inl hi, rfl⟩)
    · exact .inr (.inr ⟨.inr (.inl hi), by simp⟩)
    · exact .inl (by simp)
    · exact .inr (.inr ⟨.inr (.inr (.inl hi)), by simp⟩)
    all_goals exact .inl (by simp)

/-- Only a hit, a RESET, or a link reset under RX_CLEARS_LATCH clears the latch (42_link_timeout.md R83). -/
theorem exec_clears_idleLatch {i : Instr} {s t : State} (h : exec i s = .next t) (before : s.idleLatch = true)
    (after : t.idleLatch = false) :
    i = .pollIdleHit ∨ (∃ ok, i = .reset ok) ∨ (s.params.rxClearsLatch = true ∧ (i = .rxAccept ∨ i = .txIssue)) := by
  obtain kept | ⟨-, -, set⟩ | ⟨hi, reset⟩ | ⟨hi, -⟩ | ⟨ok, hi, -⟩ := exec_idleLatch_cases h
  · simp [before, after] at kept
  · simp [after] at set
  · refine .inr (.inr ⟨?_, hi⟩)
    simpa [before, after] using reset
  · exact .inl hi
  · exact .inr (.inl ⟨ok, hi⟩)

/-- Settles O40: the writers of the latch and the counter and the value each writes. -/
theorem monitorWriters : Obligations.MonitorWriters := by
  unfold Obligations.MonitorWriters
  refine fun i s t h => ⟨fun before after => (exec_sets_idleLatch h before after).1, exec_clears_idleLatch h, ?_,
    fun changed => ?_⟩
  · obtain kept | ⟨hi, counted⟩ | ⟨-, zero⟩ := exec_linkCnt_cases h
    · exact .inl kept
    · exact .inr (.inr ⟨counted, hi⟩)
    · exact .inr (.inl zero)
  · obtain kept | ⟨hi, -⟩ | ⟨hi, -⟩ := exec_linkCnt_cases h
    · exact absurd kept changed
    · exact .inl hi
    · exact .inr hi

/-! ## The outputs under exec -/

/-- The rows that write an output, each with the outputs it keeps; every other row but RESET keeps them all. -/
theorem exec_output_cases {i : Instr} {s t : State} (h : exec i s = .next t) (no_reset : ∀ ok, i ≠ .reset ok) :
    (t.phase = s.phase ∧ t.draws = s.draws) ∧
      ((t.storedByte = s.storedByte ∧ t.servoCmp = s.servoCmp ∧ t.stripColor = s.stripColor ∧
        t.statusLed = s.statusLed ∧ t.modeOut = s.modeOut) ∨
      (i = .rxAccept ∧ t.statusLed = s.statusLed ∧ t.modeOut = s.modeOut) ∨
      (i = .txIssue ∧ t.storedByte = s.storedByte ∧ t.servoCmp = s.servoCmp ∧ t.statusLed = s.statusLed ∧
        t.modeOut = s.modeOut) ∨
      ((i = .pollIdleMiss ∨ i = .pollIdleHit) ∧ t.storedByte = s.storedByte ∧ t.servoCmp = s.servoCmp ∧
        t.stripColor = s.stripColor) ∨
      ((i = .pollFwdA ∨ i = .pollFwdB ∨ i = .pollFwdBoth) ∧ t.storedByte = s.storedByte ∧ t.servoCmp = s.servoCmp ∧
        t.stripColor = s.stripColor ∧ t.statusLed = s.statusLed)) := by
  obtain ⟨ok, hi, -⟩ | ⟨r, rfl⟩ | ⟨-, row⟩ := exec_next_cases h
  · exact absurd hi (no_reset ok)
  · exact ⟨⟨rfl, rfl⟩, .inl ⟨rfl, rfl, rfl, rfl, rfl⟩⟩
  · obtain ⟨b, -, rfl⟩ | ⟨-, -, rfl⟩ | ⟨-, -, rfl⟩ | ⟨hi, -, -, -, rfl⟩ | ⟨-, -, -, -, rfl⟩ | ⟨b, hi, -, rfl⟩ |
      ⟨hi, -, -, rfl⟩ | ⟨hi, -, -, rfl⟩ | ⟨hi, -, rfl⟩ | ⟨hi, -, rfl⟩ | ⟨hi, -, rfl⟩ := row
    · exact ⟨⟨rfl, rfl⟩, .inl ⟨rfl, rfl, rfl, rfl, rfl⟩⟩
    · exact ⟨⟨rfl, rfl⟩, .inl ⟨rfl, rfl, rfl, rfl, rfl⟩⟩
    · exact ⟨⟨rfl, rfl⟩, .inl ⟨rfl, rfl, rfl, rfl, rfl⟩⟩
    · exact ⟨⟨rfl, rfl⟩, .inr (.inl ⟨hi, rfl, rfl⟩)⟩
    · exact ⟨⟨rfl, rfl⟩, .inl ⟨rfl, rfl, rfl, rfl, rfl⟩⟩
    · exact ⟨⟨rfl, rfl⟩, .inr (.inr (.inl ⟨hi, rfl, rfl, rfl, rfl⟩))⟩
    · rw [pollIdle_eq]
      exact ⟨⟨rfl, rfl⟩, .inr (.inr (.inr (.inl ⟨.inl hi, rfl, rfl, rfl⟩)))⟩
    · rw [pollIdle_eq]
      exact ⟨⟨rfl, rfl⟩, .inr (.inr (.inr (.inl ⟨.inr hi, rfl, rfl, rfl⟩)))⟩
    all_goals exact ⟨⟨rfl, rfl⟩, .inr (.inr (.inr (.inr ⟨by simp [hi], rfl, rfl, rfl, rfl⟩)))⟩

/-- Settles O41: each output is kept by every row that is none of its writers. -/
theorem outputWriters : Obligations.OutputWriters := by
  unfold Obligations.OutputWriters
  intro i s t h no_reset
  obtain ⟨⟨phase, draws⟩, outputs⟩ := exec_output_cases h no_reset
  obtain ⟨stored, servo, strip, led, mode_out⟩ | ⟨rfl, led, mode_out⟩ | ⟨rfl, stored, servo, led, mode_out⟩ |
    ⟨rfl | rfl, stored, servo, strip⟩ | ⟨rfl | rfl | rfl, stored, servo, strip, led⟩ := outputs <;>
    simp [*]

/-! ## The configuration under exec and under a step -/

theorem exec_keeps_config {i : Instr} {s t : State} (h : exec i s = .next t) :
    t.params = s.params ∧ t.agenda = s.agenda ∧ t.choices = s.choices ∧ t.drawSeed = s.drawSeed := by
  obtain ⟨ok, -, rfl⟩ | ⟨r, rfl⟩ | ⟨-, row⟩ := exec_next_cases h
  · exact ⟨rfl, rfl, rfl, rfl⟩
  · exact ⟨rfl, rfl, rfl, rfl⟩
  · obtain ⟨b, -, rfl⟩ | ⟨-, -, rfl⟩ | ⟨-, -, rfl⟩ | ⟨-, -, -, -, rfl⟩ | ⟨-, -, -, -, rfl⟩ | ⟨b, -, -, rfl⟩ |
      ⟨-, -, -, rfl⟩ | ⟨-, -, -, rfl⟩ | ⟨-, -, rfl⟩ | ⟨-, -, rfl⟩ | ⟨-, -, rfl⟩ := row
    iterate 6 exact ⟨rfl, rfl, rfl, rfl⟩
    · rw [pollIdle_eq]
      exact ⟨rfl, rfl, rfl, rfl⟩
    · rw [pollIdle_eq]
      exact ⟨rfl, rfl, rfl, rfl⟩
    all_goals exact ⟨rfl, rfl, rfl, rfl⟩

/-- Settles O42: no row writes a configuration field, and taking a request writes the agenda and the choices alone. -/
theorem configurationNeverChanges : Obligations.ConfigurationNeverChanges := by
  unfold Obligations.ConfigurationNeverChanges
  refine ⟨fun _ _ _ h => exec_keeps_config h, fun s t h => ?_⟩
  obtain ⟨i, -, -, ran⟩ := runRequest_next h
  obtain ⟨params, -, -, seed⟩ := exec_keeps_config ran
  rw [params, seed, takeRequest_eq]
  exact ⟨rfl, rfl⟩

/-! ## The history under exec and under a step -/

/-- Settles O43: the rows that emit and their events, of which there are at most two. -/
theorem historyOnlyGrows : Obligations.HistoryOnlyGrows := by
  unfold Obligations.HistoryOnlyGrows
  refine ⟨fun i s t h => ?_, fun s t h => ?_⟩
  · obtain kept | ⟨hi, emitted⟩ | ⟨b, hi, emitted⟩ | ⟨hi, emitted⟩ | ⟨hi, emitted⟩ := exec_hist_cases h
    · exact ⟨[], by simp [kept], by simp, fun some_event => absurd rfl some_event⟩
    · exact ⟨_, emitted, le_rfl, fun _ => .inl hi⟩
    · exact ⟨_, emitted, le_rfl, fun _ => .inr (.inl hi)⟩
    · exact ⟨_, emitted, le_rfl, fun _ => by tauto⟩
    · exact ⟨_, emitted, by simp, fun _ => by tauto⟩
  · obtain ⟨es, appended, -⟩ := step_appends_mapped_servo_writes h
    exact ⟨es, appended⟩

end Sys2Proof.Machine
end

section
/-! Proofs about runs of operations (30_encoding.md R61, 42_link_timeout.md R85, 44_relay_arbiter.md R102, R103,
70_reset_and_hazards.md R138): ticks round the period, and an arrival with its service. -/

namespace Sys2Proof.Machine

/-! ## Runs -/

theorem stepOps_cons_of_enabled {o : Op} {s : State} (enabled : Enabled o s = true) (os : List Op) :
    stepOps (o :: os) s = stepOps os ((effect o s).reporting .taken) :=
  stepOps_cons_next (stepOp_of_enabled enabled)

theorem stepOps_append_of_next {os : List Op} {s t : State} (h : stepOps os s = .next t) (os' : List Op) :
    stepOps (os ++ os') s = stepOps os' t := by
  induction os generalizing s with
  | nil =>
    cases h
    rfl
  | cons o os ih =>
    cases first : stepOp o s with
    | next u =>
      rw [stepOps_cons_next first] at h
      rw [List.cons_append, stepOps_cons_next first, ih h]
    | fault f => simp [stepOps, first] at h
    | refused r => simp [stepOps, first] at h

/-! ## Ticks -/

/-- The state with the counter, the latch and the report of another. -/
def State.withLinkOf (t s : State) : State :=
  { t with linkCnt := s.linkCnt, idleLatch := s.idleLatch, report := s.report }

theorem phase_of_withLinkOf {s t : State} (frame : t.withLinkOf s = s) : t.phase = s.phase := by
  rw [← frame]
  rfl

theorem params_of_withLinkOf {s t : State} (frame : t.withLinkOf s = s) : t.params = s.params := by
  rw [← frame]
  rfl

@[simp] theorem State.ticked_phase (s : State) : s.ticked.phase = s.phase := by
  cases branch : flagW s <;> simp [ticked_of_wrap, ticked_of_count, branch]

@[simp] theorem State.ticked_params (s : State) : s.ticked.params = s.params := by
  cases branch : flagW s <;> simp [ticked_of_wrap, ticked_of_count, branch]

theorem ticked_idleLatch (s : State) :
    s.ticked.idleLatch = (s.idleLatch || decide (s.linkCnt.toNat + 1 = s.params.linkPeriod)) := by
  cases branch : flagW s with
  | true => simp [ticked_of_wrap branch, (flagW_iff s).1 branch]
  | false => simp [ticked_of_count branch, (flagW_false_iff s).1 branch]

/-- A tick moves the counter one place round its period (42_link_timeout.md R79, R80). -/
theorem ticked_linkCnt_toNat {s : State} (legal : s.params.wf) (below : s.counterBelowPeriod) :
    s.ticked.linkCnt.toNat = (s.linkCnt.toNat + 1) % s.params.linkPeriod := by
  cases branch : flagW s with
  | true =>
    rw [(flagW_iff s).1 branch, Nat.mod_self, ticked_of_wrap branch]
    rfl
  | false =>
    have counts := (flagW_false_iff s).1 branch
    have still_below : s.linkCnt.toNat + 1 < s.params.linkPeriod := by omega
    rw [Nat.mod_eq_of_lt still_below, ticked_of_count branch]
    exact linkCnt_succ_toNat legal.2 below counts

theorem ticked_withLinkOf (s : State) (r : Report) : (s.ticked.reporting r).withLinkOf s = s := by
  cases branch : flagW s with
  | true =>
    rw [ticked_of_wrap branch]
    rfl
  | false =>
    rw [ticked_of_count branch]
    rfl

theorem withLinkOf_trans {s u t : State} (first : u.withLinkOf s = s) (then_on : t.withLinkOf u = u) :
    t.withLinkOf s = s :=
  calc t.withLinkOf s = (t.withLinkOf u).withLinkOf s := rfl
    _ = s := by rw [then_on, first]

/-- k ticks, one after the other: the counter goes round its period, the latch keeps the completion (R85). -/
theorem stepOps_ticks (k : Nat) {s : State} (running : s.phase = .run) (legal : s.params.wf)
    (below : s.counterBelowPeriod) :
    ∃ t, stepOps (ticksOps k) s = .next t ∧
      t.linkCnt.toNat = (s.linkCnt.toNat + k) % s.params.linkPeriod ∧
      t.idleLatch = (s.idleLatch || decide (s.params.linkPeriod ≤ s.linkCnt.toNat + k)) ∧
      t.withLinkOf s = s := by
  induction k generalizing s with
  | zero =>
    have not_yet : ¬s.params.linkPeriod ≤ s.linkCnt.toNat := by omega
    exact ⟨s, rfl, (Nat.mod_eq_of_lt below).symm, by simp [not_yet], rfl⟩
  | succ k ih =>
    have counter := ticked_linkCnt_toNat legal below
    have below' : (s.ticked.reporting .taken).counterBelowPeriod := by
      simpa [State.counterBelowPeriod, counter] using Nat.mod_lt _ legal.1
    obtain ⟨t, ran, counter', latch', frame⟩ := ih (s := s.ticked.reporting .taken) (by simpa using running)
      (by simpa using legal) below'
    have first_tick : Enabled .tick s = true := enabled_arrival_or_tick (.inl rfl) running
    refine ⟨t, ?_, ?_, ?_, withLinkOf_trans (ticked_withLinkOf s .taken) frame⟩
    · rw [ticksOps, List.replicate_succ, stepOps_cons_of_enabled first_tick]
      exact ran
    · simp only [counter', State.reporting_linkCnt, State.reporting_params, State.ticked_params, counter,
        Nat.mod_add_mod, Nat.add_assoc, Nat.add_comm 1 k]
    · have reaches : (s.linkCnt.toNat + 1 = s.params.linkPeriod ∨
          s.params.linkPeriod ≤ (s.linkCnt.toNat + 1) % s.params.linkPeriod + k) ↔
            s.params.linkPeriod ≤ s.linkCnt.toNat + (k + 1) := by
        by_cases wraps : s.linkCnt.toNat + 1 = s.params.linkPeriod
        · omega
        · rw [Nat.mod_eq_of_lt (by omega)]
          omega
      simp only [latch', State.reporting_idleLatch, State.reporting_linkCnt, State.reporting_params,
        State.ticked_params, counter, ticked_idleLatch, Bool.or_assoc, ← Bool.decide_or, reaches]

/-- Settles O36 by `stepOps_ticks`. -/
theorem ticksDetectIdle : Obligations.TicksDetectIdle := by
  unfold Obligations.TicksDetectIdle
  exact fun k _ running legal below => stepOps_ticks k running legal below

/-- Settles O37: after k ticks from 0 the counter is k modulo the period, and the next tick wraps at its last place. -/
theorem wrapOnMultiplesOfThePeriod : Obligations.WrapOnMultiplesOfThePeriod := by
  unfold Obligations.WrapOnMultiplesOfThePeriod
  intro k s t running legal from_zero h
  have zero : s.linkCnt.toNat = 0 := by rw [from_zero]; rfl
  have below : s.counterBelowPeriod := lt_of_eq_of_lt zero legal.1
  obtain ⟨t', ran, counter, -, frame⟩ := stepOps_ticks k running legal below
  obtain rfl : t' = t := Host.Outcome.next.inj (ran.symm.trans h)
  have same_params : t'.params = s.params := params_of_withLinkOf frame
  obtain ⟨p, period⟩ : ∃ p, s.params.linkPeriod = p + 1 := Nat.exists_eq_add_of_le' legal.1
  rw [decode_fetch_tick_wraps_iff, counter, same_params, zero, Nat.zero_add, period, Nat.succ_mod_succ_eq_zero_iff,
    Nat.add_right_cancel_iff]

/-- The ticks of IDLE and what they leave: all but the last bring the counter to the last place of its period. -/
theorem stepOps_idle {s : State} (running : s.phase = .run) (legal : s.params.wf) (below : s.counterBelowPeriod) :
    ∃ u t, stepOps (ticksOps (s.params.linkPeriod - s.linkCnt.toNat - 1)) s = .next u ∧
      decode (fetch (.op .tick) u) = .ok .tickWrap [] ∧ stepOp .tick u = .next t ∧ stepOps (idleOps s) s = .next t ∧
      t.linkCnt = 0 ∧ t.idleLatch = true := by
  obtain ⟨u, ran, counter, -, frame⟩ := stepOps_ticks (s.params.linkPeriod - s.linkCnt.toNat - 1) running legal below
  have same_phase : u.phase = s.phase := phase_of_withLinkOf frame
  have same_params : u.params = s.params := params_of_withLinkOf frame
  have last_place : u.linkCnt.toNat + 1 = u.params.linkPeriod := by
    have in_period : s.linkCnt.toNat + (s.params.linkPeriod - s.linkCnt.toNat - 1) < s.params.linkPeriod := by omega
    rw [counter, same_params, Nat.mod_eq_of_lt in_period]
    omega
  have last_tick : stepOp .tick u = .next (u.ticked.reporting .taken) :=
    stepOp_of_enabled (enabled_arrival_or_tick (.inl rfl) (same_phase.trans running))
  have all_ticks : idleOps s = ticksOps (s.params.linkPeriod - s.linkCnt.toNat - 1) ++ [.tick] := by
    rw [idleOps, ticksOps, ticksOps, ← List.replicate_succ']
    congr 1
    omega
  refine ⟨u, _, ran, (decode_fetch_tick_wraps_iff u).2 last_place, last_tick, ?_, ?_, ?_⟩
  · rw [all_ticks, stepOps_append_of_next ran, stepOps_cons_next last_tick]
    rfl
  all_goals rw [ticked_of_wrap ((flagW_iff u).2 last_place)]; rfl

end Sys2Proof.Machine
end

section
/-! Proofs about the receive handler and the main loop as operations (40_step_model.md R71, R72, R74; 44_relay_arbiter.md
R102, R103, R110; 70_reset_and_hazards.md R138, R139): what excludes what, and what a byte's way through the node leaves. -/

namespace Sys2Proof.Machine

/-! ## A waiting byte -/

theorem disabled_rxService_of_waiting {s : State} (waiting : s.fwdWait ≠ none) : Enabled .rxService s = false :=
  Bool.eq_false_iff.2 fun enabled => waiting ((enabled_rxService_iff s).1 enabled).2.2

theorem disabled_poll_of_waiting {s : State} (waiting : s.fwdWait ≠ none) (p0 p1 : Bool) :
    Enabled (.poll p0 p1) s = false :=
  Bool.eq_false_iff.2 fun enabled => waiting ((enabled_poll_iff p0 p1 s).1 enabled).2

theorem interruptEnable_iff {s : State} (running : s.phase = .run) : interruptEnable s = true ↔ s.fwdWait = none := by
  simp [interruptEnable, running, Option.isNone_iff_eq_none]

/-- Settles O47: the conditions of POLL and RX_SERVICE are false while a byte waits, the others' are true. -/
theorem handlerExcludesPollAndService : Obligations.HandlerExcludesPollAndService := by
  unfold Obligations.HandlerExcludesPollAndService
  intro s running
  refine ⟨fun waiting => ⟨fun p0 p1 => ?_, ?_, fun o which => ?_⟩, interruptEnable_iff running⟩
  · exact stepOp_of_disabled_run (disabled_poll_of_waiting waiting p0 p1) running
  · exact stepOp_of_disabled_run (disabled_rxService_of_waiting waiting) running
  · have enabled : Enabled o s = true := by
      obtain rfl | rfl | ⟨b, rfl⟩ := which
      · exact enabled_arrival_or_tick (.inl rfl) running
      · exact (enabled_txIssue_iff s).2 ⟨running, Option.ne_none_iff_exists'.1 waiting⟩
      · exact enabled_arrival_or_tick (.inr ⟨b, rfl⟩) running
    exact ⟨_, stepOp_of_enabled enabled, rfl⟩

/-- Settles O48: both operations are enabled, and their effects are `ticked` and the arrival's record update. -/
theorem deferredRequestsAreKept : Obligations.DeferredRequestsAreKept := by
  unfold Obligations.DeferredRequestsAreKept
  intro s t o running _ which h
  rw [stepOp_of_enabled (enabled_arrival_or_tick which running)] at h
  cases h
  obtain rfl | ⟨b, rfl⟩ := which
  · cases branch : flagW s with
    | true =>
      rw [effect, ticked_of_wrap branch]
      exact ⟨rfl, fun _ => rfl, id⟩
    | false =>
      rw [effect, ticked_of_count branch]
      exact ⟨rfl, id, id⟩
  · exact ⟨rfl, id, fun _ => rfl⟩

/-! ## The relay state and the wait under each effect -/

@[simp] theorem State.ticked_isFirst (s : State) : s.ticked.isFirst = s.isFirst := by
  cases branch : flagW s <;> simp [ticked_of_wrap, ticked_of_count, branch]

@[simp] theorem State.ticked_fwdWait (s : State) : s.ticked.fwdWait = s.fwdWait := by
  cases branch : flagW s <;> simp [ticked_of_wrap, ticked_of_count, branch]

@[simp] theorem State.ticked_hist (s : State) : s.ticked.hist = s.hist := by
  cases branch : flagW s <;> simp [ticked_of_wrap, ticked_of_count, branch]

@[simp] theorem State.pollIdle_isFirst (s : State) : s.pollIdle.isFirst = (s.isFirst || s.idleLatch) := by
  rw [pollIdle_eq]

/-- A poll re-arms the node exactly in mode 00 on a set latch (44_relay_arbiter.md R105). -/
@[simp] theorem State.polled_isFirst (s : State) (p0 p1 : Bool) :
    (s.polled p0 p1).isFirst = (s.isFirst || (!p0 && !p1 && s.idleLatch)) := by
  cases p0 <;> cases p1 <;> simp [State.polled]

@[simp] theorem State.polled_phase (s : State) (p0 p1 : Bool) : (s.polled p0 p1).phase = s.phase := by
  unfold State.polled
  split <;> simp

@[simp] theorem State.polled_fwdWait (s : State) (p0 p1 : Bool) : (s.polled p0 p1).fwdWait = s.fwdWait := by
  unfold State.polled
  split <;> simp

/-- Settles O49: a taken operation was enabled and had its effect. -/
theorem controlFlowTable : Obligations.ControlFlowTable := by
  unfold Obligations.ControlFlowTable
  intro o s t running h reported
  obtain ⟨enabled, rfl⟩ := stepOp_taken h reported
  refine ⟨?_, ?_, ?_, ?_, ?_, ?_⟩
  · rintro rfl first
    obtain ⟨-, -, no_wait⟩ := (enabled_rxService_iff s).1 enabled
    simp [effect, serviced_of_first first, no_wait]
  · rintro rfl mid_transfer
    simp [effect, serviced_of_mid_transfer mid_transfer, mid_transfer]
  · rintro rfl
    obtain ⟨-, b, waiting⟩ := (enabled_txIssue_iff s).1 enabled
    simp [effect, waiting]
  · rintro p0 p1 rfl
    obtain ⟨-, no_wait⟩ := (enabled_poll_iff p0 p1 s).1 enabled
    simp [effect, no_wait]
  · rintro (rfl | ⟨b, rfl⟩)
    · simp [effect]
    · exact ⟨rfl, rfl⟩
  · rintro ok rfl
    simp [effect]

/-- While a byte waits a transmit ends the wait with its two events, and no other operation but RESET touches the relay
state, the wait or the history (44_relay_arbiter.md R110). -/
theorem stepOp_waiting {o : Op} {b : Byte} {s t : State} (waiting : s.fwdWait = some b) (no_reset : ∀ ok, o ≠ .reset ok)
    (h : stepOp o s = .next t) :
    (t.phase = s.phase ∧ t.isFirst = s.isFirst) ∧
      ((o ≠ .txIssue ∧ t.fwdWait = some b ∧ t.hist = s.hist) ∨
        (o = .txIssue ∧ t.fwdWait = none ∧ t.hist = s.hist ++ [.tx b, .strip .cyan])) := by
  have some_wait : s.fwdWait ≠ none := by simp [waiting]
  obtain ⟨enabled, rfl⟩ | ⟨disabled, running, rfl⟩ := stepOp_next_cases h
  · cases o with
    | reset ok => exact absurd rfl (no_reset ok)
    | rxArrive b' => exact ⟨⟨rfl, rfl⟩, .inl ⟨nofun, waiting, rfl⟩⟩
    | tick => simp [effect, waiting]
    | rxService => simp [disabled_rxService_of_waiting some_wait] at enabled
    | txIssue => simp [effect, waiting, finishForward_eq]
    | poll p0 p1 => simp [disabled_poll_of_waiting some_wait] at enabled
  · refine ⟨⟨rfl, rfl⟩, .inl ⟨?_, waiting, rfl⟩⟩
    rintro rfl
    simp [(enabled_txIssue_iff s).2 ⟨running, b, waiting⟩] at disabled

/-- Settles O50 by `stepOp_waiting`. -/
theorem waitingByteIsStable : Obligations.WaitingByteIsStable := by
  unfold Obligations.WaitingByteIsStable
  intro o b s t waiting no_reset h
  obtain ⟨⟨-, relay⟩, wait⟩ := stepOp_waiting waiting no_reset h
  exact ⟨relay, wait⟩

/-! ## An arrival and its service -/

/-- The state after an arrival of `b` and the service that accepts it (44_relay_arbiter.md R93, R95). -/
def State.acceptedArrival (s : State) (b : Byte) : State :=
  ((s.requested.withRxBuf b).enterHandler.accept b).reporting .taken

/-- The state after an arrival of `b` and the service that takes it for forwarding (44_relay_arbiter.md R93, R102). -/
def State.forwardedArrival (s : State) (b : Byte) : State :=
  ((s.requested.withRxBuf b).enterHandler.startForward b).reporting .taken

@[simp] theorem State.acceptedArrival_phase (s : State) (b : Byte) : (s.acceptedArrival b).phase = s.phase := rfl
@[simp] theorem State.acceptedArrival_isFirst (s : State) (b : Byte) : (s.acceptedArrival b).isFirst = false := rfl
@[simp] theorem State.acceptedArrival_storedByte (s : State) (b : Byte) : (s.acceptedArrival b).storedByte = b := rfl
@[simp] theorem State.acceptedArrival_fwdWait (s : State) (b : Byte) : (s.acceptedArrival b).fwdWait = s.fwdWait := rfl
@[simp] theorem State.acceptedArrival_statusLed (s : State) (b : Byte) :
    (s.acceptedArrival b).statusLed = s.statusLed := rfl
@[simp] theorem State.acceptedArrival_idleLatch (s : State) (b : Byte) :
    (s.acceptedArrival b).idleLatch = if s.params.rxClearsLatch then false else s.idleLatch := rfl
@[simp] theorem State.acceptedArrival_hist (s : State) (b : Byte) :
    (s.acceptedArrival b).hist = s.hist ++ [.servoWrite (mapServo b), .strip (colorOf b)] := by
  simp [State.acceptedArrival, State.withRxBuf, State.requested]

section Arrival

variable {s : State} (running : s.phase = .run) (no_wait : s.fwdWait = none)
include running no_wait

theorem stepOps_arrive_accept (first : s.isFirst = true) (b : Byte) (os : List Op) :
    stepOps (.rxArrive b :: .rxService :: os) s = stepOps os (s.acceptedArrival b) := by
  have enabled : Enabled .rxService (s.requested.withRxBuf b) = true :=
    (enabled_rxService_iff _).2 ⟨running, rfl, no_wait⟩
  rw [stepOps_cons_next (stepOp_rxArrive_run running b), stepOps_cons_of_enabled enabled, effect,
    serviced_of_first (s := s.requested.withRxBuf b) first]
  rfl

theorem stepOps_arrive_forward (mid_transfer : s.isFirst = false) (b : Byte) (os : List Op) :
    stepOps (.rxArrive b :: .rxService :: os) s = stepOps os (s.forwardedArrival b) := by
  have enabled : Enabled .rxService (s.requested.withRxBuf b) = true :=
    (enabled_rxService_iff _).2 ⟨running, rfl, no_wait⟩
  rw [stepOps_cons_next (stepOp_rxArrive_run running b), stepOps_cons_of_enabled enabled, effect,
    serviced_of_mid_transfer (s := s.requested.withRxBuf b) mid_transfer]
  rfl

/-- A byte sent mid-transfer and transmitted. -/
theorem stepOps_arrive_forward_transmit (mid_transfer : s.isFirst = false) (b : Byte) :
    stepOps [.rxArrive b, .rxService, .txIssue] s = .next (((s.forwardedArrival b).finishForward b).reporting .taken) := by
  have enabled : Enabled .txIssue (s.forwardedArrival b) = true := (enabled_txIssue_iff _).2 ⟨running, b, rfl⟩
  rw [stepOps_arrive_forward running no_wait mid_transfer, stepOps_cons_of_enabled enabled]
  rfl

end Arrival

/-- Settles O51: the run is `stepOps_arrive_forward_transmit`, whose last effect is the forward branch after the wait. -/
theorem forwardedByteIsUnmodified : Obligations.ForwardedByteIsUnmodified := by
  unfold Obligations.ForwardedByteIsUnmodified
  intro b s running mid_transfer no_wait
  refine ⟨_, stepOps_arrive_forward_transmit running no_wait mid_transfer b, ?_⟩
  rw [finishForward_eq]
  exact ⟨rfl, rfl, rfl, mid_transfer, rfl, rfl⟩

/-! ## SEND -/

theorem sendOps_of_not_forwarding {s : State} (b : Byte) (not_mid_transfer : s.isFirst = true ∨ s.fwdWait ≠ none) :
    sendOps s b = [.rxArrive b, .rxService] := by
  have no_forward : ¬servicesByForwarding { s with rxBuf := b, rxPending := true } = true := by
    rw [servicesByForwarding_iff]
    rintro ⟨-, -, no_wait, mid_transfer⟩
    obtain first | waiting := not_mid_transfer
    · simp [first] at mid_transfer
    · exact waiting no_wait
  simp [sendOps, no_forward]

theorem sendOps_of_forwarding {s : State} (b : Byte) (running : s.phase = .run) (no_wait : s.fwdWait = none)
    (mid_transfer : s.isFirst = false) : sendOps s b = [.rxArrive b, .rxService, .txIssue] := by
  have forwards : servicesByForwarding { s with rxBuf := b, rxPending := true } = true :=
    (servicesByForwarding_iff _).2 ⟨running, rfl, no_wait, mid_transfer⟩
  simp [sendOps, forwards]

/-- A SEND with no byte waiting runs to the end of the handler on either branch. -/
theorem stepOps_send {s : State} (b : Byte) (running : s.phase = .run) (no_wait : s.fwdWait = none) :
    ∃ t, stepOps (sendOps s b) s = .next t ∧ t.report = .taken ∧ t.fwdWait = none ∧ t.rxPending = false ∧
      t.isFirst = false ∧ t.linkCnt = 0 ∧
      (s.isFirst = true → t.hist = s.hist ++ [.servoWrite (mapServo b), .strip (colorOf b)]) ∧
      (s.isFirst = false → t.hist = s.hist ++ [.tx b, .strip .cyan]) := by
  cases first : s.isFirst with
  | true =>
    rw [sendOps_of_not_forwarding b (.inl first), stepOps_arrive_accept running no_wait first]
    exact ⟨_, rfl, rfl, no_wait, rfl, rfl, rfl, fun _ => State.acceptedArrival_hist s b, nofun⟩
  | false =>
    rw [sendOps_of_forwarding b running no_wait first, stepOps_arrive_forward_transmit running no_wait first,
      finishForward_eq]
    exact ⟨_, rfl, rfl, rfl, rfl, first, rfl, nofun, fun _ => rfl⟩

/-- A SEND while a byte waits leaves the new byte pending: its service has no step. -/
theorem stepOps_send_waiting {s : State} (b : Byte) (running : s.phase = .run) (waiting : s.fwdWait ≠ none) :
    ∃ t, stepOps (sendOps s b) s = .next t ∧ t.fwdWait = s.fwdWait ∧ t.rxBuf = b ∧ t.rxPending = true ∧
      t.hist = s.hist := by
  have no_service : Enabled .rxService (s.requested.withRxBuf b) = false := disabled_rxService_of_waiting waiting
  rw [sendOps_of_not_forwarding b (.inr waiting), stepOps_cons_next (stepOp_rxArrive_run running b),
    stepOps_cons_next (stepOp_of_disabled_run no_service running)]
  exact ⟨_, rfl, rfl, rfl, rfl, rfl⟩

/-- Settles O52: IDLE by `stepOps_idle`, SEND by its branch. -/
theorem pseudoOperationsExpand : Obligations.PseudoOperationsExpand := by
  unfold Obligations.PseudoOperationsExpand
  exact ⟨fun _ running legal below => stepOps_idle running legal below,
    fun b _ running no_wait => stepOps_send b running no_wait,
    fun b _ running waiting => ⟨sendOps_of_not_forwarding b (.inr waiting), stepOps_send_waiting b running waiting⟩⟩

/-! ## What the receive service reads -/

/-- Settles O54: the condition and the branch of the service read the five fields alone, and so do its events. -/
theorem receiveDecisionIgnoresModeAndTimer : Obligations.ReceiveDecisionIgnoresModeAndTimer := by
  unfold Obligations.ReceiveDecisionIgnoresModeAndTimer
  intro s s' t phase first buffer request wait h
  obtain ⟨enabled, rfl⟩ | ⟨disabled, running, rfl⟩ := stepOp_next_cases h
  · have enabled' : Enabled .rxService s' = true := by
      rw [enabled_rxService_iff] at enabled ⊢
      rwa [← phase, ← request, ← wait]
    cases branch : s.isFirst with
    | true =>
      refine ⟨_, [.servoWrite (mapServo s.rxBuf), .strip (colorOf s.rxBuf)], stepOp_of_enabled enabled', ?_⟩
      simp [effect, serviced_of_first branch, serviced_of_first (first.symm.trans branch), buffer, wait]
    | false =>
      refine ⟨_, [], stepOp_of_enabled enabled', ?_⟩
      simp [effect, serviced_of_mid_transfer branch, serviced_of_mid_transfer (first.symm.trans branch), buffer, first]
  · have disabled' : Enabled .rxService s' = false := by
      rw [← Bool.not_eq_true, enabled_rxService_iff] at disabled ⊢
      rwa [← phase, ← request, ← wait]
    exact ⟨_, [], stepOp_of_disabled_run disabled' (phase ▸ running), (List.append_nil _).symm, (List.append_nil _).symm,
      first, wait, request, rfl⟩

/-! ## No re-arming outside mode RELAY_IDLE -/

/-- What stays, and what is appended, while a node mid-transfer is not re-armed (70_reset_and_hazards.md R139). -/
def StaysMidTransfer (s t : State) : Prop :=
  t.isFirst = false ∧ t.storedByte = s.storedByte ∧ t.servoCmp = s.servoCmp ∧
    ∃ es, t.hist = s.hist ++ es ∧ ∀ v, .servoWrite v ∉ es

theorem StaysMidTransfer.trans {s u t : State} (first : StaysMidTransfer s u) (then_on : StaysMidTransfer u t) :
    StaysMidTransfer s t := by
  obtain ⟨-, stored, servo, es, appended, no_write⟩ := first
  obtain ⟨mid_transfer, stored', servo', es', appended', no_write'⟩ := then_on
  refine ⟨mid_transfer, stored'.trans stored, servo'.trans servo, es ++ es', ?_, fun v mem => ?_⟩
  · rw [appended', appended, List.append_assoc]
  · exact (List.mem_append.1 mem).elim (no_write v) (no_write' v)

/-- The only operations that take a node out of the middle of a transfer are the idle poll and RESET. -/
theorem stepOp_staysMidTransfer {o : Op} {s t : State} (mid_transfer : s.isFirst = false)
    (no_idle_poll : o ≠ .poll false false) (no_reset : ∀ ok, o ≠ .reset ok) (h : stepOp o s = .next t) :
    StaysMidTransfer s t := by
  obtain ⟨-, rfl⟩ | ⟨-, -, rfl⟩ := stepOp_next_cases h
  · cases o with
    | reset ok => exact absurd rfl (no_reset ok)
    | rxArrive b => exact ⟨mid_transfer, rfl, rfl, [], (List.append_nil _).symm, nofun⟩
    | tick =>
      rw [effect, State.ticked]
      split <;> exact ⟨mid_transfer, rfl, rfl, [], (List.append_nil _).symm, nofun⟩
    | rxService =>
      rw [effect, serviced_of_mid_transfer mid_transfer]
      exact ⟨mid_transfer, rfl, rfl, [], (List.append_nil _).symm, nofun⟩
    | txIssue =>
      rw [effect, finishForward_eq]
      exact ⟨mid_transfer, rfl, rfl, _, rfl, by simp⟩
    | poll p0 p1 =>
      have forwards : (p0 || p1) = true := by
        rw [← Bool.not_eq_false, Bool.or_eq_false_iff]
        rintro ⟨rfl, rfl⟩
        exact no_idle_poll rfl
      rw [effect, State.polled, if_pos forwards]
      exact ⟨mid_transfer, rfl, rfl, _, rfl, by simp⟩
  · exact ⟨mid_transfer, rfl, rfl, [], (List.append_nil _).symm, nofun⟩

/-- Settles O55 by induction over the operations. -/
theorem noRearmOutsideRelayIdle : Obligations.NoRearmOutsideRelayIdle := by
  unfold Obligations.NoRearmOutsideRelayIdle
  intro os
  induction os with
  | nil =>
    intro s t mid_transfer _ h
    cases h
    exact ⟨mid_transfer, rfl, rfl, [], (List.append_nil _).symm, nofun⟩
  | cons o os ih =>
    intro s t mid_transfer allowed h
    obtain ⟨⟨no_idle_poll, no_reset⟩, later⟩ := List.forall_mem_cons.1 allowed
    cases first : stepOp o s with
    | next u =>
      rw [stepOps_cons_next first] at h
      have step_kept := stepOp_staysMidTransfer mid_transfer no_idle_poll no_reset first
      exact step_kept.trans (ih u t step_kept.1 later h)
    | fault f => simp [stepOps, first] at h
    | refused r => simp [stepOps, first] at h

/-! ## The stale latch -/

/-- An idle poll on a set latch, then an accepted byte. -/
theorem stepOps_hit_arrive_accept {s : State} (running : s.phase = .run) (no_wait : s.fwdWait = none)
    (set : s.idleLatch = true) (b : Byte) :
    stepOps [.poll false false, .rxArrive b, .rxService] s =
      .next ((s.pollIdle.reporting .taken).acceptedArrival b) := by
  rw [stepOps_cons_next (stepOp_poll_idle_ready running no_wait), stepOps_arrive_accept]
  · rfl
  all_goals simp [running, no_wait, set]

/-- An idle poll on a clear latch in the middle of a transfer, then a byte taken for forwarding. -/
theorem stepOps_miss_arrive_forward {s : State} (running : s.phase = .run) (no_wait : s.fwdWait = none)
    (clear : s.idleLatch = false) (mid_transfer : s.isFirst = false) (b : Byte) :
    stepOps [.poll false false, .rxArrive b, .rxService] s =
      .next ((s.pollIdle.reporting .taken).forwardedArrival b) := by
  rw [stepOps_cons_next (stepOp_poll_idle_ready running no_wait), stepOps_arrive_forward]
  · rfl
  all_goals simp [running, no_wait, clear, mid_transfer]

/-- Settles O56: the accept keeps or clears the latch by RX_CLEARS_LATCH, so the idle poll re-arms the node or misses, and
the second byte meets a first-byte state or a transfer. -/
theorem staleLatchAcceptsTwice : Obligations.StaleLatchAcceptsTwice := by
  unfold Obligations.StaleLatchAcceptsTwice
  intro b1 b2 s running first set no_wait
  rw [stepOps_arrive_accept running no_wait first]
  cases clears : s.params.rxClearsLatch with
  | false =>
    have stale : (s.acceptedArrival b1).idleLatch = true := by simp [clears, set]
    refine ⟨_, stepOps_hit_arrive_accept (s := s.acceptedArrival b1) running no_wait stale b2, fun _ => ?_, nofun⟩
    simp [pollIdle_hit _ stale]
  | true =>
    have clear : (s.acceptedArrival b1).idleLatch = false := by simp [clears]
    refine ⟨_, stepOps_miss_arrive_forward (s := s.acceptedArrival b1) running no_wait clear rfl b2, nofun, fun _ => ?_⟩
    rw [pollIdle_miss _ clear]
    exact ⟨rfl, rfl, rfl⟩

end Sys2Proof.Machine
end

section
/-! Proofs about fair runs (40_step_model.md R73): a byte that waits stays waiting until the transmit or a RESET, so the
transmit stays enabled and weak fairness takes it. -/

namespace Sys2Proof.Machine

/-- An operation that can run leaves its next state, and a fault leaves the state as it was. -/
theorem afterOp_cases (o : Op) (s : State) : stepOp o s = .next (afterOp o s) ∨ afterOp o s = s := by
  cases answer : stepOp o s with
  | next t => exact .inl (by simp only [afterOp, answer])
  | fault f => exact .inr (by simp only [afterOp, answer])
  | refused r => exact .inr (by simp only [afterOp, answer])

/-- A point of the run at which RUN holds, `b` waits, and the history is the one given. -/
def HoldsWaiting (b : Byte) (hist : List Event) (s : State) : Prop :=
  s.phase = .run ∧ s.fwdWait = some b ∧ s.hist = hist

theorem afterOp_holdsWaiting {b : Byte} {hist : List Event} {o : Op} {s : State} (holds : HoldsWaiting b hist s)
    (no_transmit : o ≠ .txIssue) (no_reset : ∀ ok, o ≠ .reset ok) : HoldsWaiting b hist (afterOp o s) := by
  obtain ⟨running, waiting, same_hist⟩ := holds
  obtain answered | stays := afterOp_cases o s
  · obtain ⟨⟨phase, -⟩, ⟨-, waits, kept⟩ | ⟨transmit, -⟩⟩ := stepOp_waiting waiting no_reset answered
    · exact ⟨phase.trans running, waits, kept.trans same_hist⟩
    · exact absurd transmit no_transmit
  · rw [stays]
    exact ⟨running, waiting, same_hist⟩

theorem afterOp_txIssue_hist {b : Byte} {hist : List Event} {s : State} (holds : HoldsWaiting b hist s) :
    (afterOp .txIssue s).hist = hist ++ [.tx b, .strip .cyan] := by
  obtain ⟨running, waiting, rfl⟩ := holds
  have enabled : Enabled .txIssue s = true := (enabled_txIssue_iff s).2 ⟨running, b, waiting⟩
  simp [afterOp, stepOp_of_enabled enabled, effect, waiting]

/-- With neither a transmit nor a RESET taken from point n on, the byte waits at every later point. -/
theorem trace_holdsWaiting {σ : Nat → Op} {s : State} {n : Nat} {b : Byte} {hist : List Event}
    (holds : HoldsWaiting b hist (trace σ s n)) {m : Nat} (later : n ≤ m)
    (neither : ∀ k, n ≤ k → k < m → σ k ≠ .txIssue ∧ ∀ ok, σ k ≠ .reset ok) : HoldsWaiting b hist (trace σ s m) := by
  induction m, later using Nat.le_induction with
  | base => exact holds
  | succ m later ih =>
    obtain ⟨no_transmit, no_reset⟩ := neither m later (Nat.lt_succ_self m)
    exact afterOp_holdsWaiting (ih fun k after before => neither k after (before.trans (Nat.lt_succ_self m))) no_transmit
      no_reset

/-- Under weak fairness of the transmit alone, a waiting byte's wait ends. -/
theorem transmit_or_reset_of_fair {σ : Nat → Op} {s : State} {n : Nat} {b : Byte} {hist : List Event}
    (fair : WeaklyFair .txIssue σ s) (holds : HoldsWaiting b hist (trace σ s n)) :
    ∃ m, n ≤ m ∧ (σ m = .txIssue ∨ ∃ ok, σ m = .reset ok) := by
  by_contra never
  have neither : ∀ k, n ≤ k → σ k ≠ .txIssue ∧ ∀ ok, σ k ≠ .reset ok := fun k after =>
    ⟨fun transmit => never ⟨k, after, .inl transmit⟩, fun ok reset => never ⟨k, after, .inr ⟨ok, reset⟩⟩⟩
  have always_enabled : ∀ m, n ≤ m → Enabled .txIssue (trace σ s m) = true := fun m later => by
    obtain ⟨running, waiting, -⟩ := trace_holdsWaiting holds later fun k after _ => neither k after
    exact (enabled_txIssue_iff _).2 ⟨running, b, waiting⟩
  obtain ⟨m, later, transmit⟩ := fair n always_enabled
  exact never ⟨m, later, .inl transmit⟩

/-- Settles O57: at the first transmit or RESET from point n on, which fairness gives, the byte still waits. -/
theorem fairRunTransmitsWaitingByte : Obligations.FairRunTransmitsWaitingByte := by
  classical
  unfold Obligations.FairRunTransmitsWaitingByte
  intro σ s n b fair running waiting
  obtain ⟨-, -, fair_transmit⟩ := fair
  have holds : HoldsWaiting b (trace σ s n).hist (trace σ s n) := ⟨running, waiting, rfl⟩
  have ends := transmit_or_reset_of_fair fair_transmit holds
  obtain ⟨later, what⟩ := Nat.find_spec ends
  have still_holds := trace_holdsWaiting holds later fun k after before =>
    have none_before := Nat.find_min ends before
    ⟨fun transmit => none_before ⟨after, .inl transmit⟩, fun ok reset => none_before ⟨after, .inr ⟨ok, reset⟩⟩⟩
  refine ⟨Nat.find ends, later, still_holds.2.1, ?_⟩
  obtain transmit | reset := what
  · refine .inl ⟨transmit, ?_⟩
    rw [trace, transmit]
    exact afterOp_txIssue_hist still_holds
  · exact .inr reset

end Sys2Proof.Machine
end

section
/-! Proofs about the chain (60_exceptions.md R125 to R127): which places a step changes, what goes onto and off a wire, and
how a mode ripples down. -/

namespace Sys2Proof.Machine

/-! ## Bytes delivered to a place -/

theorem deliver_other {j k : Nat} (other : k ≠ j) (c : Chain) (bs : List Byte) :
    getElem? (deliver c j bs) k = getElem? c k := by
  simp [deliver, other.symm]

theorem deliver_there (c : Chain) (j : Nat) (bs : List Byte) :
    getElem? (deliver c j bs) j = (getElem? c j).map fun m => { m with line := m.line ++ bs } := by
  simp [deliver]

/-- A delivery changes a wire, and no node. -/
theorem deliver_node (c : Chain) (j k : Nat) (bs : List Byte) :
    (getElem? (deliver c j bs) k).map ChainNode.node = (getElem? c k).map ChainNode.node := by
  by_cases there : k = j
  · rw [there, deliver_there, Option.map_map]
    rfl
  · rw [deliver_other there]

theorem deliver_nil (c : Chain) (j : Nat) : deliver c j [] = c := by
  refine List.ext_getElem? fun k => ?_
  by_cases there : k = j
  · simp [there, deliver_there]
  · rw [deliver_other there]

/-- Settles O58: a step sets its own place and delivers to the next wire. -/
theorem chainStepIsLocal : Obligations.ChainStepIsLocal := by
  unfold Obligations.ChainStepIsLocal
  intro c c' i o h
  obtain ⟨rfl, -⟩ | ⟨n, o', t, -, -, -, rfl⟩ := chainStep_cases h
  · exact ⟨rfl, fun _ _ => rfl, fun _ _ _ => rfl⟩
  · refine ⟨by simp [deliver], fun j other => ?_, fun j other not_next => ?_⟩
    · rw [deliver_node, List.getElem?_set_ne other.symm]
    · rw [deliver_other not_next, List.getElem?_set_ne other.symm]

/-! ## What a step transmits -/

theorem transmitted_of_appended {s t : State} {es : List Event} (appended : t.hist = s.hist ++ es) :
    transmitted s t = txBytes es := by
  rw [transmitted, appended, List.drop_left]

theorem transmitted_self (s : State) : transmitted s s = [] :=
  transmitted_of_appended (List.append_nil _).symm

theorem polled_transmits_nothing (s : State) (p0 p1 : Bool) : transmitted s ((s.polled p0 p1).reporting .taken) = [] := by
  unfold State.polled
  split
  · exact transmitted_of_appended (State.writeModeOut_hist s _)
  · exact transmitted_of_appended (State.pollIdle_hist s)

theorem serviced_transmits_nothing (s : State) : transmitted s (s.serviced.reporting .taken) = [] := by
  cases first : s.isFirst with
  | true =>
    rw [serviced_of_first first]
    exact transmitted_of_appended (State.accept_hist s.enterHandler s.rxBuf)
  | false =>
    rw [serviced_of_mid_transfer first]
    exact transmitted_self s

/-- TX_ISSUE transmits the waiting byte, if one waits, and no other operation transmits (44_relay_arbiter.md R103). -/
theorem stepOp_transmitted {o : Op} {s t : State} (h : stepOp o s = .next t) :
    transmitted s t = if o = .txIssue then s.fwdWait.toList else [] := by
  obtain ⟨enabled, rfl⟩ | ⟨disabled, running, rfl⟩ := stepOp_next_cases h
  · cases o with
    | reset | rxArrive => exact transmitted_self s
    | tick => exact transmitted_of_appended (es := []) (by simp [effect])
    | rxService => exact serviced_transmits_nothing s
    | txIssue =>
      obtain ⟨-, b, waiting⟩ := (enabled_txIssue_iff s).1 enabled
      rw [if_pos rfl, waiting]
      exact transmitted_of_appended (es := [.tx b, .strip .cyan]) (by simp [effect, waiting])
    | poll p0 p1 => exact polled_transmits_nothing s p0 p1
  · refine (transmitted_self s).trans ?_
    split
    · rename_i transmit
      subst transmit
      cases waiting : s.fwdWait with
      | none => rfl
      | some b => simp [(enabled_txIssue_iff s).2 ⟨running, b, waiting⟩] at disabled
    · rfl

/-! ## The operation a place takes -/

/-- Only an arrival past the head, asked of an empty wire, is no operation (R126). -/
theorem chainOp_none {c : Chain} {i : Nat} {n : ChainNode} {o : Op} (h : chainOp c i n o = none) :
    (∃ b, o = .rxArrive b) ∧ i ≠ 0 ∧ n.line = [] := by
  cases o with
  | rxArrive b =>
    cases i with
    | zero => cases h
    | succ i =>
      refine ⟨⟨b, rfl⟩, Nat.succ_ne_zero i, ?_⟩
      cases line : n.line with
      | nil => rfl
      | cons b' rest => simp [chainOp, line] at h
  | reset | tick | rxService | txIssue | poll => cases h

theorem chainOp_empty_wire {c : Chain} {i : Nat} {n : ChainNode} {b : Byte} (past_head : i ≠ 0) (empty : n.line = []) :
    chainOp c i n (.rxArrive b) = none := by
  cases i with
  | zero => exact absurd rfl past_head
  | succ i => simp only [chainOp, empty]

/-- An arrival past the head is of the oldest byte on the wire, a poll is a poll with the place's own pins, and every other
operation is taken as asked (R126, R127). -/
theorem chainOp_some {c : Chain} {i : Nat} {n : ChainNode} {o o' : Op} (h : chainOp c i n o = some o') :
    (∃ b, o = .rxArrive b ∧ ((i = 0 ∧ o' = .rxArrive b) ∨ (i ≠ 0 ∧ ∃ b' rest, n.line = b' :: rest ∧ o' = .rxArrive b'))) ∨
    (∃ p0 p1 q0 q1, o = .poll p0 p1 ∧ o' = .poll q0 q1) ∨
    ((∀ b, o ≠ .rxArrive b) ∧ o' = o) := by
  cases o with
  | rxArrive b =>
    refine .inl ⟨b, rfl, ?_⟩
    cases i with
    | zero => exact .inl ⟨rfl, (Option.some.inj h).symm⟩
    | succ i =>
      cases line : n.line with
      | nil => simp [chainOp, line] at h
      | cons b' rest =>
        refine .inr ⟨Nat.succ_ne_zero i, b', rest, rfl, ?_⟩
        simpa [chainOp, line] using h.symm
  | poll p0 p1 => exact .inr (.inl ⟨p0, p1, _, _, rfl, (Option.some.inj h).symm⟩)
  | reset | tick | rxService | txIssue => exact .inr (.inr ⟨nofun, (Option.some.inj h).symm⟩)

theorem placeAfter_line_arrive (i : Nat) (n : ChainNode) (b : Byte) (t : State) :
    (placeAfter i n (.rxArrive b) t).line = if i = 0 then n.line else n.line.tail := rfl

theorem placeAfter_line_other {o : Op} (no_arrival : ∀ b, o ≠ .rxArrive b) (i : Nat) (n : ChainNode) (t : State) :
    (placeAfter i n o t).line = n.line := by
  cases o with
  | rxArrive b => exact absurd rfl (no_arrival b)
  | reset | tick | rxService | txIssue | poll => rfl

/-- An arrival that answers a next state has put its byte into the buffer, pending (44_relay_arbiter.md R93). -/
theorem stepOp_rxArrive_buffered {b : Byte} {s t : State} (h : stepOp (.rxArrive b) s = .next t) :
    t.rxBuf = b ∧ t.rxPending = true := by
  cases phase : s.phase with
  | run =>
    rw [stepOp_rxArrive_run phase] at h
    cases h
    exact ⟨rfl, rfl⟩
  | halted =>
    rw [stepOp_rxArrive_halted phase] at h
    cases h

/-! ## The wires -/

/-- What a step of a place that took `o'` leaves of its own wire and its receive side, by the operation asked. -/
theorem place_after_step {c : Chain} {i : Nat} {n : ChainNode} {o o' : Op} {t : State} (op : chainOp c i n o = some o')
    (ran : stepOp o' n.node = .next t) :
    transmitted n.node t = (if o = .txIssue then n.node.fwdWait.toList else []) ∧
      (∀ b rest, i ≠ 0 → (∃ b', o = .rxArrive b') → n.line = b :: rest →
        (placeAfter i n o' t).line = rest ∧ t.rxBuf = b ∧ t.rxPending = true) ∧
      ((∀ b', o ≠ .rxArrive b') → (placeAfter i n o' t).line = n.line) ∧
      (∀ b, i = 0 → o = .rxArrive b → (placeAfter i n o' t).line = n.line ∧ t.rxBuf = b ∧ t.rxPending = true) := by
  have sent := stepOp_transmitted ran
  obtain ⟨b, rfl, ⟨head, rfl⟩ | ⟨past_head, b', rest, line, rfl⟩⟩ | ⟨p0, p1, q0, q1, rfl, rfl⟩ | ⟨no_arrival, rfl⟩ :=
    chainOp_some op
  · refine ⟨by simpa using sent, fun _ _ past_head => absurd head past_head, fun no_arrival => absurd rfl (no_arrival b),
      fun b' _ same => ?_⟩
    cases same
    exact ⟨by rw [placeAfter_line_arrive, if_pos head], stepOp_rxArrive_buffered ran⟩
  · refine ⟨by simpa using sent, fun b'' rest' _ _ line' => ?_, fun no_arrival => absurd rfl (no_arrival b),
      fun _ head => absurd head past_head⟩
    obtain ⟨rfl, rfl⟩ := List.cons.inj (line.symm.trans line')
    exact ⟨by rw [placeAfter_line_arrive, if_neg past_head, line, List.tail_cons], stepOp_rxArrive_buffered ran⟩
  · exact ⟨by simpa using sent, fun _ _ _ arrival => absurd arrival (by simp), fun _ => rfl, nofun⟩
  · exact ⟨sent, fun _ _ _ ⟨b, arrival⟩ => absurd arrival (no_arrival b), fun _ => placeAfter_line_other no_arrival i n t,
      fun b _ arrival => absurd arrival (no_arrival b)⟩

/-- Settles O59: the next wire gets what the step transmitted, by `deliver_there`, and the place's own wire goes by the
operation asked, by `place_after_step`. -/
theorem chainWireIsFifo : Obligations.ChainWireIsFifo := by
  unfold Obligations.ChainWireIsFifo
  intro c c' i o m h
  obtain ⟨rfl, no_op⟩ | ⟨n, o', t, there, op, ran, rfl⟩ := chainStep_cases h
  · refine ⟨fun next => ?_, fun there => ⟨m, there, ?_⟩⟩
    · obtain ⟨in_chain, -⟩ := List.getElem?_eq_some_iff.1 next
      have there : getElem? c' i = some (c'[i]) := List.getElem?_eq_getElem (Nat.lt_of_succ_lt in_chain)
      exact ⟨_, _, m, there, there, next, by rw [transmitted_self, List.append_nil]⟩
    · obtain ⟨⟨b, rfl⟩, past_head, empty⟩ := chainOp_none (no_op m there)
      refine ⟨transmitted_self _, fun b' rest _ _ line => ?_, fun no_arrival => absurd rfl (no_arrival b),
        fun _ head => absurd head past_head, fun _ _ _ => rfl⟩
      rw [empty] at line
      cases line
  · have own_place : getElem? (deliver (c.set i (placeAfter i n o' t)) (i + 1) (transmitted n.node t)) i =
        some (placeAfter i n o' t) := by
      obtain ⟨in_chain, -⟩ := List.getElem?_eq_some_iff.1 there
      rw [deliver_other (Nat.succ_ne_self i).symm, List.getElem?_set_self in_chain]
    refine ⟨fun next => ?_, fun same => ?_⟩
    · refine ⟨n, _, { m with line := m.line ++ transmitted n.node t }, there, own_place, ?_, ?_⟩
      · rw [deliver_there, List.getElem?_set_ne (Nat.succ_ne_self i).symm, next]
        rfl
      · rw [placeAfter_node]
    · obtain rfl : n = m := Option.some.inj (there.symm.trans same)
      obtain ⟨sent, takes, keeps, at_head⟩ := place_after_step op ran
      refine ⟨_, own_place, ?_, ?_, keeps, ?_, fun past_head arrival empty => ?_⟩
      · rwa [placeAfter_node]
      · rwa [placeAfter_node]
      · rwa [placeAfter_node]
      · obtain ⟨b, rfl⟩ := arrival
        rw [chainOp_empty_wire past_head empty] at op
        cases op

/-! ## The ripple of the mode -/

/-- A node in RUN with no byte waiting can poll (40_step_model.md R68). -/
def ChainNode.CanPoll (n : ChainNode) : Prop := n.node.phase = .run ∧ n.node.fwdWait = none

/-- A node that has polled and drives a pair of levels (R127). -/
def ChainNode.Drives (n : ChainNode) (p0 p1 : Bool) : Prop := n.node.modeOut = pins p0 p1 ∧ n.polled = true

/-- A poll of a place that samples a pair leaves the place driving it, and changes no other. -/
theorem chainStep_poll {c : Chain} {i : Nat} {n : ChainNode} {q0 q1 p0 p1 : Bool} (there : getElem? c i = some n)
    (can : n.CanPoll) (sampled : pinsAt c i q0 q1 = (p0, p1)) :
    ∃ n' : ChainNode, chainStep c i (.poll q0 q1) = .next (c.set i n') ∧ n'.CanPoll ∧ n'.Drives p0 p1 := by
  obtain ⟨running, no_wait⟩ := can
  have polls : runRequest (.op (.poll p0 p1)) n.node = .next ((n.node.polled p0 p1).reporting .taken) :=
    stepOp_of_enabled ((enabled_poll_iff p0 p1 n.node).2 ⟨running, no_wait⟩)
  refine ⟨placeAfter i n (.poll p0 p1) ((n.node.polled p0 p1).reporting .taken), ?_, ⟨?_, ?_⟩, ?_, ?_⟩
  · simp only [chainStep, there, chainOp, sampled, polls, polled_transmits_nothing, deliver_nil]
  · simp [running]
  · simp [no_wait]
  · simp
  · simp [placeAfter]

/-- From a place that drives the pair on, every place after it samples and drives the same pair. -/
theorem pollRipple_drives {p0 p1 : Bool} (asked : List (Bool × Bool)) {c : Chain} {i : Nat}
    (can : ∀ n ∈ c, n.CanPoll) (driven : ∀ j ≤ i, ∀ n, getElem? c j = some n → n.Drives p0 p1)
    (length : c.length = i + 1 + asked.length) :
    ∃ c', pollRipple asked (i + 1) c = .next c' ∧ c'.length = c.length ∧ ∀ n ∈ c', n.Drives p0 p1 := by
  induction asked generalizing c i with
  | nil =>
    refine ⟨c, rfl, rfl, fun n mem => ?_⟩
    obtain ⟨j, there⟩ := List.mem_iff_getElem?.1 mem
    obtain ⟨in_chain, -⟩ := List.getElem?_eq_some_iff.1 there
    rw [List.length_nil] at length
    exact driven j (by omega) n there
  | cons q asked ih =>
    simp only [List.length_cons] at length
    obtain ⟨up, up_there⟩ : ∃ up, getElem? c i = some up := ⟨_, List.getElem?_eq_getElem (by omega)⟩
    obtain ⟨n, there⟩ : ∃ n, getElem? c (i + 1) = some n := ⟨_, List.getElem?_eq_getElem (by omega)⟩
    obtain ⟨up_out, up_polled⟩ := driven i le_rfl _ up_there
    obtain ⟨high, low⟩ := pins_getLsbD p0 p1
    have sampled : pinsAt c (i + 1) q.1 q.2 = (p0, p1) := by
      simp only [pinsAt, up_there, up_polled, if_true, up_out, high, low]
    obtain ⟨n', stepped, can', drives⟩ := chainStep_poll there (can n (List.mem_of_getElem? there)) sampled
    obtain ⟨c', rippled, same_length, all_drive⟩ := ih (c := c.set (i + 1) n') (i := i + 1)
      (fun n mem => (List.mem_or_eq_of_mem_set mem).elim (can n) fun same => same ▸ can')
      (fun j up_to n at_j => by
        by_cases here : j = i + 1
        · rw [here, List.getElem?_set_self (by omega)] at at_j
          cases at_j
          exact drives
        · rw [List.getElem?_set_ne (Ne.symm here)] at at_j
          exact driven j (by omega) n at_j)
      (by rw [List.length_set]; omega)
    refine ⟨c', ?_, by rw [same_length, List.length_set], all_drive⟩
    simp only [pollRipple, stepped, rippled]

/-- Settles O60: the head samples its own pins, and the rest is `pollRipple_drives`. -/
theorem modeRipplesDownTheChain : Obligations.ModeRipplesDownTheChain := by
  unfold Obligations.ModeRipplesDownTheChain
  intro c p0 p1 asked can length
  obtain ⟨n, there⟩ : ∃ n, getElem? c 0 = some n := ⟨_, List.getElem?_eq_getElem (by omega)⟩
  have own_pins : pinsAt c 0 p0 p1 = (p0, p1) := rfl
  obtain ⟨n', stepped, can', drives⟩ := chainStep_poll there (can n (List.mem_of_getElem? there)) own_pins
  obtain ⟨c', rippled, same_length, all_drive⟩ := pollRipple_drives asked (c := c.set 0 n') (i := 0)
    (fun n mem => (List.mem_or_eq_of_mem_set mem).elim (can n) fun same => same ▸ can')
    (fun j head n at_head => by
      obtain rfl : j = 0 := Nat.le_zero.1 head
      rw [List.getElem?_set_self (by omega)] at at_head
      cases at_head
      exact drives)
    (by rw [List.length_set]; omega)
  refine ⟨c', ?_, by rw [same_length, List.length_set], all_drive⟩
  simp only [pollRipple, stepped, rippled]

end Sys2Proof.Machine
end
